-- ==== Sys2Proof/Word.lean ====
section
/-! DEFINITION. The two word types of the hardware: an 8-bit bus byte and a 16-bit register pair or address
(spec 00_scope.md R9: data bus 8 bits, address width 16 bits, SP and PC 16 bits). -/

namespace Sys2Proof

/-- A `u8` of the spec: a register half, a bus byte, an immediate `n` or a displacement `e` (R9, R11). -/
abbrev Byte := BitVec 8

/-- A `u16` of the spec: a register pair, SP, PC, an address, an immediate `nn` (R9, R11). -/
abbrev Word := BitVec 16

end Sys2Proof
end

