-- ==== Sys2Proof/Machine/Bits.lean ====
section
/-! DEFINITION. Bytes of a 16-bit word, sign extension and zero extension (00_scope.md R11, R12). -/

namespace Sys2Proof

/-- `v[15:8]`. -/
def hiByte (v : Word) : Byte := v.extractLsb' 8 8

/-- `v[7:0]`. -/
def loByte (v : Word) : Byte := v.extractLsb' 0 8

/-- `(hi << 8) | lo` (R11). -/
def joinBytes (hi lo : Byte) : Word := hi ++ lo

/-- `sext_16(v)` (R12): `v - 256` when `v[7] = 1`, else `v`. -/
def sext16 (v : Byte) : Word := v.signExtend 16

/-- `zext_16(v)` (R12). -/
def zext16 (v : Byte) : Word := v.setWidth 16

/-- The address `0xFF00 + n` of the high-page forms (R71, R152 to R155). -/
def highPage (n : Byte) : Word := 0xFF00#16 + zext16 n

end Sys2Proof
end

