-- ==== Sys2Proof/Config.lean ====
section
/-! DEFINITION. The open parameters of the block (00_scope.md R10), which the spec makes arguments of a model.
They are fixed for one machine: State carries one value of `Config`, no step changes it, and a statement about every
state therefore holds for every choice of the parameters. `frame_done` (D39) is an argument of `tickFrame`. -/

namespace Sys2Proof

/-- `BOOT_ROM` (R10, R340, D37): which of the two reset paths is taken. -/
inductive BootRom where
  | simulated
  | bypassed
  deriving DecidableEq, Repr

/-- `STOP_MODE` (R10, R262, D15): the meaning given to STOP. -/
inductive StopMode where
  | asHalt
  | refuse
  deriving DecidableEq, Repr

/-- The open parameters of R10. The vector of VBlank is no parameter: it is fixed at 0x0040 (R292). -/
structure Config where
  /-- `BOOT_ROM` (D37). -/
  bootRom : BootRom
  /-- `DIV0`: DIVCNT at reset (D20). -/
  div0 : Word
  /-- `IF0`: the five stored bits of IF at reset (D21). -/
  if0 : BitVec 5
  /-- `STOP_MODE` (D15). -/
  stopMode : StopMode
  /-- `VECTOR(1)`, LCD-STAT (D3). -/
  vectorLcdStat : Word
  /-- `VECTOR(2)`, Timer (D3). -/
  vectorTimer : Word
  /-- `VECTOR(3)`, Serial (D3). -/
  vectorSerial : Word
  /-- `VECTOR(4)`, Joypad (D3). -/
  vectorJoypad : Word
  deriving DecidableEq, Repr

/-- Every parameter at its default (R10, R292, R340): boot ROM bypassed, `DIV0 = 0`, `IF0 = 0b00001`,
`STOP_MODE = as_halt`, `VECTOR(i) = 0x0040 + 8*i`. -/
def Config.default : Config :=
  { bootRom := .bypassed
    div0 := 0x0000#16
    if0 := 0b00001#5
    stopMode := .asHalt
    vectorLcdStat := 0x0048#16
    vectorTimer := 0x0050#16
    vectorSerial := 0x0058#16
    vectorJoypad := 0x0060#16 }

/-- The defaults with a boot-ROM image supplied (R340): `BOOT_ROM = simulated` and `IF0 = 0b00000`. -/
def Config.simulatedDefault : Config :=
  { Config.default with bootRom := .simulated, if0 := 0b00000#5 }

end Sys2Proof
end

