-- ==== Sys2Proof/Machine/State.lean ====
section
/-! DEFINITION. The state of the block (10_state.md), the orchestrator's breakpoint (R49), the two other agents' scripted
moves (R74, R295) and the state right after construction (70_reset_and_hazards.md R340). Plain data throughout. -/

namespace Sys2Proof.Machine

/-- The record of the one synchronous fault (R46, R289): an invalid opcode byte and the address it was fetched from, or STOP
refused under `STOP_MODE = refuse` and the address of its 0x10 byte. -/
inductive FaultRecord where
  | invalidOpcode (op : Byte) (addr : Word)
  | refusedStop (addr : Word)
  deriving DecidableEq, Repr

/-- Why a step does not answer a next state. -/
inductive Fault where
  /-- `Stuck` (R281, R289, R314). Raised by `tick` alone, on a state whose `fault` field is set: the tick changes nothing, not
  even the divider, and no later tick leaves this state. The tick that SET the field answered a next state, which holds the
  record and everything R289 says is left. Safe: the spec says that this is what happens. -/
  | stuck (record : FaultRecord)
  deriving DecidableEq, Repr

/-- Why an instruction is not run at all. -/
inductive Refusal where
  /-- The instruction has no meaning in this model yet. Raised by an arm of `exec`; safe. No arm raises it. -/
  | notModelled (mnemonic : String)
  deriving DecidableEq, Repr

/-- The five interrupt sources (R292). -/
inductive Source where
  | vblank | lcdStat | timer | serial | joypad
  deriving DecidableEq, Repr

/-- One move of the requester agent (R295): the subset of the VBlank, LCD-STAT, Serial and Joypad requests it raises between
two ticks. It cannot raise the Timer request, cannot clear a request and can touch nothing else. -/
structure Request where
  vblank : Bool
  lcdStat : Bool
  serial : Bool
  joypad : Bool
  deriving DecidableEq, Repr

/-- One access to the external bus, as the bus sees it (R74, R75, R83): a read and the byte answered, or a write. -/
inductive BusEvent where
  | read (addr : Word) (value : Byte)
  | write (addr : Word) (value : Byte)
  deriving DecidableEq, Repr

/-- The byte store behind the external bus: (address, byte) pairs, addresses strictly rising, no entry equal to what an
unlisted address reads as (`Memory.wf` in Machine/Ops.lean). -/
abbrev Memory := List Host.Cell

/-- Every piece of state the spec gives the machine. -/
structure State where
  /-- Accumulator (R30). -/
  a : Byte
  /-- Flags: Z, N, H, C in bits 7 to 4, bits 3 to 0 zero (R33, R34). -/
  f : Byte
  /-- B, high half of BC (R30, R31). -/
  b : Byte
  /-- C, low half of BC. -/
  c : Byte
  /-- D, high half of DE. -/
  d : Byte
  /-- E, low half of DE. -/
  e : Byte
  /-- H, high half of HL. -/
  h : Byte
  /-- L, low half of HL. -/
  l : Byte
  /-- Stack pointer (R36). -/
  sp : Word
  /-- Program counter: the next byte not yet fetched (R37). -/
  pc : Word
  /-- `inst_clocks`, remaining ticks of the instruction in flight, 0 to 24 (R40). -/
  instClocks : Nat
  /-- Interrupt master enable (R41). -/
  ime : Bool
  /-- The CPU is in the Halted state (R42). -/
  isHalted : Bool
  /-- The next opcode fetch does not advance PC (R43). -/
  haltBug : Bool
  /-- `ei_ime_enable`, the deferred IME enable of EI (R44). -/
  eiImeEnable : Bool
  /-- The fault recorded, none until one is raised (R46). -/
  fault : Option FaultRecord
  /-- The model's own field: the address the current opcode byte was fetched from, `addr` of `FetchExecute` (R288), which
  `Execute(op, addr)` puts in a fault record (notes/assumptions/5.md). -/
  opAddr : Word
  /-- The free-running divider; DIV is its high byte (R296). -/
  divcnt : Word
  /-- Timer counter (R297). -/
  tima : Byte
  /-- Timer modulo (R299). -/
  tma : Byte
  /-- Timer control, the three stored bits (R300). -/
  tac : BitVec 3
  /-- IF, interrupt request flags, the five stored bits (R293). -/
  ifr : BitVec 5
  /-- IE, interrupt enable, all eight bits stored (R294). -/
  ie : Byte
  /-- The store that answers an external read for which the oracle has scripted nothing (R74, D7). -/
  mem : Memory
  /-- The memory oracle's scripted answers (R74): each external read takes the first, whatever is stored. -/
  busAnswers : List Byte
  /-- The accesses the external bus has seen, newest first (R75, R83). -/
  busEvents : List BusEvent
  /-- The requester agent's moves to come (R295): one is taken before each tick. -/
  requests : List Request
  /-- The orchestrator's breakpoint address (R49, R309). -/
  bpAddr : Word
  /-- The orchestrator's breakpoint is enabled (R49, R309). -/
  bpEnabled : Bool
  /-- The open parameters (R10); no step changes them. -/
  cfg : Config
  deriving DecidableEq, Repr

/-- What a meaning, a tick and a step answer. -/
abbrev Result := Host.Outcome State Fault Refusal

/-- The state right after construction under parameters `cfg`, before any tick (R340 to R344, R347). -/
def State.powerOn (cfg : Config) : State :=
  let boot := decide (cfg.bootRom = .simulated)
  { a := if boot then 0x00#8 else 0x01#8
    f := if boot then 0x00#8 else 0xB0#8
    b := 0x00#8
    c := if boot then 0x00#8 else 0x13#8
    d := 0x00#8
    e := if boot then 0x00#8 else 0xD8#8
    h := if boot then 0x00#8 else 0x01#8
    l := if boot then 0x00#8 else 0x4D#8
    sp := if boot then 0x0000#16 else 0xFFFE#16
    pc := if boot then 0x0000#16 else 0x0100#16
    instClocks := 0
    ime := false
    isHalted := false
    haltBug := false
    eiImeEnable := false
    fault := none
    opAddr := 0x0000#16
    divcnt := cfg.div0
    tima := 0x00#8
    tma := 0x00#8
    tac := 0b000#3
    ifr := cfg.if0
    ie := 0x00#8
    mem := []
    busAnswers := []
    busEvents := []
    requests := []
    bpAddr := 0x0000#16
    bpEnabled := false
    cfg := cfg }

/-- Right after reset with every parameter at its default: the boot ROM bypassed (R340, R342, D37). -/
def State.reset : State := State.powerOn Config.default

end Sys2Proof.Machine
end

