-- ==== Sys2Proof/Machine/Flags.lean ====
section
/-! DEFINITION. The four flags of F and every flag computation: 8-bit and 16-bit arithmetic (R180, R210), the stack-pointer
forms (R163, R213), logic (R186 to R188), increments (R190, R192), DAA (R194) and the rotates and shifts (R220 to R232).
Each is a function of bytes and flags alone. -/

namespace Sys2Proof.Machine

/-- The four flags (R34). -/
structure Flags where
  z : Bool
  n : Bool
  h : Bool
  c : Bool
  deriving DecidableEq, Repr

/-- F as flags: Z = F[7], N = F[6], H = F[5], C = F[4] (R34). -/
def Flags.ofByte (f : Byte) : Flags :=
  { z := f.getLsbD 7, n := f.getLsbD 6, h := f.getLsbD 5, c := f.getLsbD 4 }

/-- The flags as F, bits 3 to 0 zero (R33, R34). -/
def Flags.toByte (g : Flags) : Byte :=
  (if g.z then 0x80#8 else 0x00#8) ||| (if g.n then 0x40#8 else 0x00#8) |||
    (if g.h then 0x20#8 else 0x00#8) ||| (if g.c then 0x10#8 else 0x00#8)

/-- What a write of `v` to F stores: `v & 0xF0` (R33). -/
def maskF (v : Byte) : Byte := v &&& 0xF0#8

/-- Bit `k` of `a ^ b ^ r`, the source's half-carry and carry pattern (R180, R210). -/
def xorBit {w : Nat} (a b r : BitVec w) (k : Nat) : Bool := (a ^^^ b ^^^ r).getLsbD k

/-- A carry-in as a number. -/
def carryIn (c : Bool) : BitVec 16 := if c then 1#16 else 0#16

/-- `Add8(a, b, c)` (R180), `r` kept in 16 bits: the low byte and the flags. -/
def add8 (a b : Byte) (c : Bool) : Byte × Flags :=
  let r := zext16 a + zext16 b + carryIn c
  (loByte r,
    { z := decide (loByte r = 0x00#8)
      n := false
      h := xorBit (zext16 a) (zext16 b) r 4
      c := xorBit (zext16 a) (zext16 b) r 8 })

/-- `Sub8(a, b, c)` (R180), `r` in two's complement in 16 bits: the low byte and the flags. -/
def sub8 (a b : Byte) (c : Bool) : Byte × Flags :=
  let r := zext16 a - zext16 b - carryIn c
  (loByte r,
    { z := decide (loByte r = 0x00#8)
      n := true
      h := xorBit (zext16 a) (zext16 b) r 4
      c := xorBit (zext16 a) (zext16 b) r 8 })

/-- A logic result with its flags: Z from the result, N and C clear, H as given (R186 to R188). -/
def logic8 (r : Byte) (h : Bool) : Byte × Flags :=
  (r, { z := decide (r = 0x00#8), n := false, h := h, c := false })

/-- The new A and the flags of an ALU operation on A = `a` with operand `b` and carry `c` before it (R182 to R189).
CP discards the difference: A is unchanged (R189). -/
def aluResult (op : AluOp) (a b : Byte) (c : Bool) : Byte × Flags :=
  match op with
  | .add => add8 a b false
  | .adc => add8 a b c
  | .sub => sub8 a b false
  | .sbc => sub8 a b c
  | .and => logic8 (a &&& b) true
  | .xor => logic8 (a ^^^ b) false
  | .or => logic8 (a ||| b) false
  | .cp => (a, (sub8 a b false).2)

/-- `v + 1` with the flags of INC; C is kept (R190). -/
def inc8 (v : Byte) (g : Flags) : Byte × Flags :=
  (v + 1#8,
    { z := decide (v + 1#8 = 0x00#8)
      n := false
      h := xorBit (zext16 v) 1#16 (zext16 v + 1#16) 4
      c := g.c })

/-- `v - 1` with the flags of DEC; C is kept (R192). -/
def dec8 (v : Byte) (g : Flags) : Byte × Flags :=
  (v - 1#8,
    { z := decide (v - 1#8 = 0x00#8)
      n := true
      h := xorBit (zext16 v) 1#16 (zext16 v - 1#16) 4
      c := g.c })

/-- `ADD HL,rr`: the sum in 32 bits, H from bit 12 and C from bit 16 of the pattern, Z kept (R210). -/
def add16 (a b : Word) (g : Flags) : Word × Flags :=
  let r := a.setWidth 32 + b.setWidth 32
  (r.setWidth 16,
    { z := g.z
      n := false
      h := xorBit (a.setWidth 32) (b.setWidth 32) r 12
      c := xorBit (a.setWidth 32) (b.setWidth 32) r 16 })

/-- `SP + sext_16(e)` with the flags of the unsigned add of `e` to the low byte of SP (R163, R213). -/
def addSpOffset (sp : Word) (e : Byte) : Word × Flags :=
  (sp + sext16 e,
    { z := false
      n := false
      h := decide ((sp &&& 0x000F#16).toNat + (e &&& 0x0F#8).toNat > 0x0F)
      c := decide ((sp &&& 0x00FF#16).toNat + e.toNat > 0xFF) })

/-- The decimal adjustment (R194): the adjusted byte, and the carry it leaves. -/
def daaAdjust (a : Byte) (g : Flags) : Byte × Bool :=
  if g.n then
    (a - (if g.c then 0x60#8 else 0x00#8) - (if g.h then 0x06#8 else 0x00#8), g.c)
  else
    let high := g.c || decide (a.toNat > 0x99)
    let low := g.h || decide ((a &&& 0x0F#8).toNat > 0x09)
    (a + (if high then 0x60#8 else 0x00#8) + (if low then 0x06#8 else 0x00#8), high)

/-- DAA: the new A and the flags `Z-0C` (R194). -/
def daa (a : Byte) (g : Flags) : Byte × Flags :=
  let r := daaAdjust a g
  (r.1, { z := decide (r.1 = 0x00#8), n := g.n, h := false, c := r.2 })

/-- A carry put into bit 0. -/
def bit0Of (c : Bool) : Byte := if c then 0x01#8 else 0x00#8

/-- A carry put into bit 7. -/
def bit7Of (c : Bool) : Byte := if c then 0x80#8 else 0x00#8

/-- The rotated or shifted byte and the new C, from the byte and the C before (R220 to R223, R225 to R232). -/
def rotResult (op : RotOp) (v : Byte) (c : Bool) : Byte × Bool :=
  match op with
  | .rlc => ((v <<< 1) ||| bit0Of (v.getLsbD 7), v.getLsbD 7)
  | .rrc => ((v >>> 1) ||| bit7Of (v.getLsbD 0), v.getLsbD 0)
  | .rl => ((v <<< 1) ||| bit0Of c, v.getLsbD 7)
  | .rr => ((v >>> 1) ||| bit7Of c, v.getLsbD 0)
  | .sla => (v <<< 1, v.getLsbD 7)
  | .sra => ((v >>> 1) ||| (v &&& 0x80#8), v.getLsbD 0)
  | .swap => (((v &&& 0x0F#8) <<< 4) ||| (v >>> 4), false)
  | .srl => (v >>> 1, v.getLsbD 0)

/-- The flags of a CB rotate or shift with result `w` and carry `c`: `Z00C` (R225 to R232). -/
def rotFlags (w : Byte) (c : Bool) : Flags :=
  { z := decide (w = 0x00#8), n := false, h := false, c := c }

/-- The flags of an accumulator rotate: `000C`, Z cleared whatever the result is (R220 to R223). -/
def rotAFlags (c : Bool) : Flags := { z := false, n := false, h := false, c := c }

/-- The flags of BIT on the tested bit: `Z01-` (R233). -/
def bitFlags (bit : Bool) (g : Flags) : Flags := { z := !bit, n := false, h := true, c := g.c }

end Sys2Proof.Machine
end

