-- ==== Sys2Proof/Machine/Ops.lean ====
section
/-! DEFINITION. The named operations over registers, memory and the bus: register accessors (R30 to R34), the external store
(R74, R75), `MemRead` and `MemWrite` with the in-block registers (R72, R73), the stack (R80, R81), the interrupt controller's
and the timer's helpers (R302), taking an interrupt and returning from it (R287, R250), and raising the fault (R289). -/

namespace Sys2Proof.Machine

/-! ## Registers (R30 to R34) -/

/-- `R8[k]` (R12, R104). -/
def State.reg (s : State) : Reg8 → Byte
  | .a => s.a
  | .b => s.b
  | .c => s.c
  | .d => s.d
  | .e => s.e
  | .h => s.h
  | .l => s.l

/-- `R8[k] <- v`. -/
def State.setReg (s : State) (r : Reg8) (v : Byte) : State :=
  match r with
  | .a => { s with a := v }
  | .b => { s with b := v }
  | .c => { s with c := v }
  | .d => { s with d := v }
  | .e => { s with e := v }
  | .h => { s with h := v }
  | .l => { s with l := v }

/-- `AF = (A << 8) | F`, F read with bits 3 to 0 zero (R31, R33, R311). -/
def State.af (s : State) : Word := joinBytes s.a (maskF s.f)

/-- `BC = (B << 8) | C` (R31). -/
def State.bc (s : State) : Word := joinBytes s.b s.c

/-- `DE = (D << 8) | E` (R31). -/
def State.de (s : State) : Word := joinBytes s.d s.e

/-- `HL = (H << 8) | L` (R31). -/
def State.hl (s : State) : Word := joinBytes s.h s.l

/-- A write to AF stores `v & 0xF0` into F (R32, R33). -/
def State.setAF (s : State) (v : Word) : State := { s with a := hiByte v, f := maskF (loByte v) }

/-- A write to BC changes both halves (R32). -/
def State.setBC (s : State) (v : Word) : State := { s with b := hiByte v, c := loByte v }

/-- A write to DE changes both halves (R32). -/
def State.setDE (s : State) (v : Word) : State := { s with d := hiByte v, e := loByte v }

/-- A write to HL changes both halves (R32). -/
def State.setHL (s : State) (v : Word) : State := { s with h := hiByte v, l := loByte v }

/-- `RR1[p]` (R105). -/
def State.pair (s : State) : Pair → Word
  | .bc => s.bc
  | .de => s.de
  | .hl => s.hl
  | .sp => s.sp

/-- `RR1[p] <- v`. -/
def State.setPair (s : State) (p : Pair) (v : Word) : State :=
  match p with
  | .bc => s.setBC v
  | .de => s.setDE v
  | .hl => s.setHL v
  | .sp => { s with sp := v }

/-- `RR2[p]` (R106). -/
def State.stackPair (s : State) : StackPair → Word
  | .bc => s.bc
  | .de => s.de
  | .hl => s.hl
  | .af => s.af

/-- `RR2[p] <- v`; into AF with F's low nibble forced to zero (R106, R166). -/
def State.setStackPair (s : State) (p : StackPair) (v : Word) : State :=
  match p with
  | .bc => s.setBC v
  | .de => s.setDE v
  | .hl => s.setHL v
  | .af => s.setAF v

/-- The four flags of F (R34). -/
def State.flags (s : State) : Flags := Flags.ofByte s.f

/-- A flag update: F's top four bits, its low nibble zero (R33). -/
def State.setFlags (s : State) (g : Flags) : State := { s with f := g.toByte }

/-! ## The in-block registers of the address space (R72, R73) -/

/-- The six in-block registers. -/
inductive IoReg where
  | div | tima | tma | tac | ifr | ie
  deriving DecidableEq, Repr

/-- The in-block register at an address, if one is there (R72, R88). -/
def ioRegAt (addr : Word) : Option IoReg :=
  if addr = 0xFF04#16 then some .div
  else if addr = 0xFF05#16 then some .tima
  else if addr = 0xFF06#16 then some .tma
  else if addr = 0xFF07#16 then some .tac
  else if addr = 0xFF0F#16 then some .ifr
  else if addr = 0xFFFF#16 then some .ie
  else none

/-- A read of an in-block register (R72): unused bits of TAC and IF read 1. No side effect (R79). -/
def readIo (r : IoReg) (s : State) : Byte :=
  match r with
  | .div => hiByte s.divcnt
  | .tima => s.tima
  | .tma => s.tma
  | .tac => 0xF8#8 ||| s.tac.setWidth 8
  | .ifr => 0xE0#8 ||| s.ifr.setWidth 8
  | .ie => s.ie

/-- A write to an in-block register (R73): any value clears the divider; TAC keeps three bits and IF five. -/
def writeIo (r : IoReg) (v : Byte) (s : State) : State :=
  match r with
  | .div => { s with divcnt := 0x0000#16 }
  | .tima => { s with tima := v }
  | .tma => { s with tma := v }
  | .tac => { s with tac := v.setWidth 3 }
  | .ifr => { s with ifr := v.setWidth 5 }
  | .ie => { s with ie := v }

/-! ## The external store and bus (R74, R75) -/

/-- What an address nothing has been written to reads as: zero (DESIGN CHOICE, notes/assumptions/1.md; the flat store of
95_test_vectors.md starts all zero). -/
def Memory.unlisted : Byte := 0x00#8

/-- The byte at an address of the store. -/
def Memory.read : Memory → Nat → Byte
  | [], _ => Memory.unlisted
  | (k, v) :: rest, a => if k = a then v else Memory.read rest a

/-- The store with the byte `v` at address `a`, in canonical form again. -/
def Memory.write : Memory → Nat → Byte → Memory
  | [], a, v => if v = Memory.unlisted then [] else [(a, v)]
  | (k, w) :: rest, a, v =>
    if k = a then
      if v = Memory.unlisted then rest else (a, v) :: rest
    else if a < k then
      if v = Memory.unlisted then (k, w) :: rest else (a, v) :: (k, w) :: rest
    else (k, w) :: Memory.write rest a v

/-- An address that the external bus answers for: one of the 65,536 (R71) and no in-block register (R72). -/
def externalAddr (k : Nat) : Bool := decide (k < 65536) && (ioRegAt (BitVec.ofNat 16 k)).isNone

/-- Canonical form from address `lo` on: addresses strictly rising from `lo`, each external, no entry that reads as an
unlisted address does. -/
def Memory.wfFrom : Nat → Memory → Bool
  | _, [] => true
  | lo, (k, v) :: rest =>
    decide (lo ≤ k) && externalAddr k && !decide (v = Memory.unlisted) && Memory.wfFrom (k + 1) rest

/-- The canonical form of the external store. -/
def Memory.wf (m : Memory) : Bool := Memory.wfFrom 0 m

/-- `ExtRead(addr)` (R74): the oracle's next scripted answer if there is one, else the byte in the store; the access is
delivered to the bus (R83). -/
def extRead (addr : Word) (s : State) : Byte × State :=
  let v :=
    match s.busAnswers with
    | [] => s.mem.read addr.toNat
    | answer :: _ => answer
  (v, { s with busAnswers := s.busAnswers.tail, busEvents := .read addr v :: s.busEvents })

/-- `ExtWrite(addr, v)` (R75): recorded as an event, in program order, and kept by the store. -/
def extWrite (addr : Word) (v : Byte) (s : State) : State :=
  { s with mem := s.mem.write addr.toNat v, busEvents := .write addr v :: s.busEvents }

/-- `MemRead(addr, 1)` (R72). -/
def memRead (addr : Word) (s : State) : Byte × State :=
  match ioRegAt addr with
  | some r => (readIo r s, s)
  | none => extRead addr s

/-- `MemWrite(addr, 1, v)` (R73). -/
def memWrite (addr : Word) (v : Byte) (s : State) : State :=
  match ioRegAt addr with
  | some r => writeIo r v s
  | none => extWrite addr v s

/-- What an address holds: an in-block register's read value, or the byte in the store. `MemRead` answers it unless the oracle
has scripted an answer. It is the model's read of one byte, without the bus event, for statements about memory. -/
def State.peek (s : State) (addr : Word) : Byte :=
  match ioRegAt addr with
  | some r => readIo r s
  | none => s.mem.read addr.toNat

/-- `MemRead16(a)`: low byte read first (R78). -/
def memRead16 (addr : Word) (s : State) : Word × State :=
  let lo := memRead addr s
  let hi := memRead (addr + 1#16) lo.2
  (joinBytes hi.1 lo.1, hi.2)

/-- `MemWrite16(a, v)`: low byte written first (R78). -/
def memWrite16 (addr : Word) (v : Word) (s : State) : State :=
  memWrite (addr + 1#16) (hiByte v) (memWrite addr (loByte v) s)

/-! ## The stack (R80, R81) -/

/-- `SP <- SP - 1; MemWrite(SP, 1, v)`. -/
def pushByte (v : Byte) (s : State) : State :=
  memWrite (s.sp - 1#16) v { s with sp := s.sp - 1#16 }

/-- `Push16(v)`: the high byte first, then the low byte (R80). -/
def push16 (v : Word) (s : State) : State := pushByte (loByte v) (pushByte (hiByte v) s)

/-- `MemRead(SP, 1); SP <- SP + 1`. -/
def popByte (s : State) : Byte × State :=
  let r := memRead s.sp s
  (r.1, { r.2 with sp := r.2.sp + 1#16 })

/-- `Pop16()`: the low byte first (R81). -/
def pop16 (s : State) : Word × State :=
  let lo := popByte s
  let hi := popByte lo.2
  (joinBytes hi.1 lo.1, hi.2)

/-! ## Interrupt controller (R285, R286, R292) -/

/-- The bit of a source in IF and IE (R292). -/
def Source.bit : Source → Nat
  | .vblank => 0
  | .lcdStat => 1
  | .timer => 2
  | .serial => 3
  | .joypad => 4

/-- `VECTOR(i)` (R292): 0x0040 for VBlank, the parameters for the others. -/
def vector (cfg : Config) : Source → Word
  | .vblank => 0x0040#16
  | .lcdStat => cfg.vectorLcdStat
  | .timer => cfg.vectorTimer
  | .serial => cfg.vectorSerial
  | .joypad => cfg.vectorJoypad

/-- `Pending() = IE & IF & 0x1F`, the helper `cpu_check_interrupts` (R285, R302). -/
def pending (s : State) : BitVec 5 := s.ie.setWidth 5 &&& s.ifr

/-- The serviced source: the lowest set bit of `p` (R286). Used only for `p ≠ 0`, where the last case is bit 4. -/
def highestPriority (p : BitVec 5) : Source :=
  if p.getLsbD 0 then .vblank
  else if p.getLsbD 1 then .lcdStat
  else if p.getLsbD 2 then .timer
  else if p.getLsbD 3 then .serial
  else .joypad

/-- The IF mask of one source. -/
def Source.mask (i : Source) : BitVec 5 := 1#5 <<< i.bit

/-- `cpu_unset_interrupt(i)`: `IF[i] <- 0` (R287, R302). -/
def unsetInterrupt (i : Source) (s : State) : State := { s with ifr := s.ifr &&& ~~~i.mask }

/-- `IF[i] <- 1`. -/
def requestInterrupt (i : Source) (s : State) : State := { s with ifr := s.ifr ||| i.mask }

/-- The IF bits one move of the requester agent raises (R295). -/
def Request.mask (q : Request) : BitVec 5 :=
  (if q.vblank then Source.mask .vblank else 0#5) ||| (if q.lcdStat then Source.mask .lcdStat else 0#5) |||
    (if q.serial then Source.mask .serial else 0#5) ||| (if q.joypad then Source.mask .joypad else 0#5)

/-- The requester agent's move before a tick (R295): the next scripted one, or none. -/
def requesterMove (s : State) : State :=
  match s.requests with
  | [] => s
  | q :: rest => { s with ifr := s.ifr ||| q.mask, requests := rest }

/-! ## Taking an interrupt, returning from it, raising the fault (R287, R250, R289) -/

/-- The return address of a dispatch: PC, or the address of the HALT while `halt_bug` is set (R287, D13). -/
def dispatchReturn (s : State) : Word := if s.haltBug then s.pc - 1#16 else s.pc

/-- `Dispatch(p)` (R287): the source is chosen first, IME and the armed EI are cleared, the return address is pushed, the
serviced request is cleared, PC goes to the vector, and 20 ticks are charged. -/
def dispatch (p : BitVec 5) (s : State) : State :=
  let i := highestPriority p
  let s1 := { s with ime := false, eiImeEnable := false, haltBug := false }
  let s2 := unsetInterrupt i (push16 (dispatchReturn s) s1)
  { s2 with pc := vector s.cfg i, instClocks := 20 }

/-- `PC <- Pop16()` (R248). -/
def popPC (s : State) : State :=
  let r := pop16 s
  { r.2 with pc := r.1 }

/-- The return from a dispatch: `PC <- Pop16(); IME <- 1` at once (R250, R305). -/
def returnFromInterrupt (s : State) : State := { popPC s with ime := true }

/-- `raise`: the fault is recorded and the instruction does not complete; nothing else changes (R289). -/
def raiseFault (record : FaultRecord) (s : State) : Result := .next { s with fault := some record }

/-- An instruction completes, returning its cost in ticks to the scheduler (R12 `cost <- n`, R288). -/
def complete (cost : Nat) (s : State) : Result := .next { s with instClocks := cost }

/-! ## Divider and timer (R296 to R302) -/

/-- `SelBit(cs)` (R301): the divider bit watched for each clock select. -/
def selBit (cs : BitVec 2) : Nat :=
  match cs.toNat with
  | 0 => 9
  | 1 => 3
  | 2 => 5
  | _ => 7

/-- The period in ticks of each clock select (R300). -/
def timerPeriod (cs : BitVec 2) : Nat :=
  match cs.toNat with
  | 0 => 1024
  | 1 => 16
  | 2 => 64
  | _ => 256

/-- TAC[1:0]. -/
def clockSelect (s : State) : BitVec 2 := s.tac.setWidth 2

/-- `cpu_get_TAC_cs()`: the selected period (R300, R302). -/
def getTacCs (s : State) : Nat := timerPeriod (clockSelect s)

/-- `cpu_inc_DIV()` (R296, R302). -/
def incDiv (s : State) : State := { s with divcnt := s.divcnt + 1#16 }

/-- `TimaInc()`, `cpu_inc_TIMA()` (R298). -/
def timaInc (s : State) : State :=
  if s.tac.getLsbD 2 = false then s
  else if s.tima = 0xFF#8 then requestInterrupt .timer { s with tima := s.tma }
  else { s with tima := s.tima + 1#8 }

/-- A falling edge: old bit 1 and new bit 0 (R282). -/
def fallingEdge (old new : Word) (k : Nat) : Bool := old.getLsbD k && !new.getLsbD k

/-- Step 1 of a tick (R281, R282). -/
def timerStep (s : State) : State :=
  if fallingEdge s.divcnt (s.divcnt + 1#16) (selBit (clockSelect s)) then timaInc (incDiv s) else incDiv s

end Sys2Proof.Machine
end

