-- ==== Sys2Proof/Machine/Operands.lean ====
section
/-! DEFINITION. The operand forms: the ALU source operand `S8` (R181), the CB target (R224), the condition field (R107). -/

namespace Sys2Proof.Machine

/-- The ALU source operand `S8` (R181): a register, the byte at HL, or the immediate fetched with the instruction. -/
inductive Operand8 where
  | reg (r : Reg8)
  | atHL
  | imm (n : Byte)
  deriving DecidableEq, Repr

/-- The value of `S8`, and the state after its read. -/
def readOperand (o : Operand8) (s : State) : Byte × State :=
  match o with
  | .reg r => (s.reg r, s)
  | .atHL => memRead s.hl s
  | .imm n => (n, s)

/-- The cost of an ALU operation by its operand (R181). -/
def operandCost : Operand8 → Nat
  | .reg _ => 4
  | .atHL => 8
  | .imm _ => 8

/-- `Get(r)` (R224). -/
def getTarget (t : Target) (s : State) : Byte × State :=
  match t with
  | .reg r => (s.reg r, s)
  | .atHL => memRead s.hl s

/-- `Put(r, v)` (R224). -/
def putTarget (t : Target) (v : Byte) (s : State) : State :=
  match t with
  | .reg r => s.setReg r v
  | .atHL => memWrite s.hl v s

/-- The cost of a CB instruction that writes its target back (R224). -/
def modifyCost : Target → Nat
  | .reg _ => 8
  | .atHL => 16

/-- The cost of BIT, which only reads (R224). -/
def testCost : Target → Nat
  | .reg _ => 8
  | .atHL => 12

/-- `Cond(cc)` (R107). It reads F and writes nothing. -/
def condHolds (cc : Cond) (s : State) : Bool :=
  match cc with
  | .nz => !s.flags.z
  | .z => s.flags.z
  | .nc => !s.flags.c
  | .c => s.flags.c

end Sys2Proof.Machine
end

