-- ==== Sys2Proof/Machine/Alu16.lean ====
section
/-! DEFINITION. 16-bit arithmetic (42_alu16.md, R210 to R213): the shared forms, then one meaning for each instruction. -/

namespace Sys2Proof.Machine

/-- `ADD HL,rr` (R210). -/
def addHL (p : Pair) (s : State) : Result :=
  let q := add16 s.hl (s.pair p) s.flags
  complete 8 ((s.setHL q.1).setFlags q.2)

/-- `INC rr`, `DEC rr`: the pair moves by `step`; no flag changes (R211, R212). -/
def stepPair (step : Word) (p : Pair) (s : State) : Result := complete 8 (s.setPair p (s.pair p + step))

/-- `ADD SP,e` (R213). -/
def addSP (e : Byte) (s : State) : Result :=
  let q := addSpOffset s.sp e
  complete 16 ({ s with sp := q.1 }.setFlags q.2)

/-- `INC BC`, 0x03 (R211). -/
def execIncBC (s : State) : Result := stepPair 1#16 .bc s

/-- `ADD HL,BC`, 0x09 (R210). -/
def execAddHLBC (s : State) : Result := addHL .bc s

/-- `DEC BC`, 0x0B (R212). -/
def execDecBC (s : State) : Result := stepPair (-1#16) .bc s

/-- `INC DE`, 0x13 (R211). -/
def execIncDE (s : State) : Result := stepPair 1#16 .de s

/-- `ADD HL,DE`, 0x19 (R210). -/
def execAddHLDE (s : State) : Result := addHL .de s

/-- `DEC DE`, 0x1B (R212). -/
def execDecDE (s : State) : Result := stepPair (-1#16) .de s

/-- `INC HL`, 0x23 (R211). -/
def execIncHL (s : State) : Result := stepPair 1#16 .hl s

/-- `ADD HL,HL`, 0x29 (R210). -/
def execAddHLHL (s : State) : Result := addHL .hl s

/-- `DEC HL`, 0x2B (R212). -/
def execDecHL (s : State) : Result := stepPair (-1#16) .hl s

/-- `INC SP`, 0x33 (R211). -/
def execIncSP (s : State) : Result := stepPair 1#16 .sp s

/-- `ADD HL,SP`, 0x39 (R210). -/
def execAddHLSP (s : State) : Result := addHL .sp s

/-- `DEC SP`, 0x3B (R212). -/
def execDecSP (s : State) : Result := stepPair (-1#16) .sp s

/-- `ADD SP,e`, 0xE8 (R213). -/
def execAddSPE (e : Byte) (s : State) : Result := addSP e s

end Sys2Proof.Machine
end

