-- ==== Sys2Proof/Machine/Alu8.lean ====
section
/-! DEFINITION. 8-bit arithmetic and logic (41_alu8.md, R180 to R197): the shared forms, then one meaning for each
instruction. -/

namespace Sys2Proof.Machine

/-- An ALU operation on A with `S8` (R181 to R189); F.C is read before it is rewritten. -/
def aluOnA (op : AluOp) (o : Operand8) (s : State) : Result :=
  let r := readOperand o s
  let q := aluResult op s.a r.1 s.flags.c
  complete (operandCost o) (({ r.2 with a := q.1 } : State).setFlags q.2)

/-- The cost of INC and DEC by their operand (R190 to R193). -/
def stepCost : Target → Nat
  | .reg _ => 4
  | .atHL => 12

/-- `INC r`, `INC (HL)` (R190, R191). -/
def incTarget (t : Target) (s : State) : Result :=
  let r := getTarget t s
  let q := inc8 r.1 s.flags
  complete (stepCost t) ((putTarget t q.1 r.2).setFlags q.2)

/-- `DEC r`, `DEC (HL)` (R192, R193). -/
def decTarget (t : Target) (s : State) : Result :=
  let r := getTarget t s
  let q := dec8 r.1 s.flags
  complete (stepCost t) ((putTarget t q.1 r.2).setFlags q.2)

/-- `DAA` (R194). -/
def decimalAdjust (s : State) : Result :=
  let q := daa s.a s.flags
  complete 4 ({ s with a := q.1 }.setFlags q.2)

/-- `INC B`, 0x04 (R190). -/
def execIncB (s : State) : Result := incTarget (.reg .b) s

/-- `DEC B`, 0x05 (R192). -/
def execDecB (s : State) : Result := decTarget (.reg .b) s

/-- `INC C`, 0x0C (R190). -/
def execIncC (s : State) : Result := incTarget (.reg .c) s

/-- `DEC C`, 0x0D (R192). -/
def execDecC (s : State) : Result := decTarget (.reg .c) s

/-- `INC D`, 0x14 (R190). -/
def execIncD (s : State) : Result := incTarget (.reg .d) s

/-- `DEC D`, 0x15 (R192). -/
def execDecD (s : State) : Result := decTarget (.reg .d) s

/-- `INC E`, 0x1C (R190). -/
def execIncE (s : State) : Result := incTarget (.reg .e) s

/-- `DEC E`, 0x1D (R192). -/
def execDecE (s : State) : Result := decTarget (.reg .e) s

/-- `INC H`, 0x24 (R190). -/
def execIncH (s : State) : Result := incTarget (.reg .h) s

/-- `DEC H`, 0x25 (R192). -/
def execDecH (s : State) : Result := decTarget (.reg .h) s

/-- `DAA`, 0x27 (R194). -/
def execDaa (s : State) : Result := decimalAdjust s

/-- `INC L`, 0x2C (R190). -/
def execIncL (s : State) : Result := incTarget (.reg .l) s

/-- `DEC L`, 0x2D (R192). -/
def execDecL (s : State) : Result := decTarget (.reg .l) s

/-- `CPL`, 0x2F (R195). -/
def execCpl (s : State) : Result := complete 4 ({ s with a := ~~~s.a }.setFlags { s.flags with n := true, h := true })

/-- `INC (HL)`, 0x34 (R191). -/
def execIncAtHL (s : State) : Result := incTarget .atHL s

/-- `DEC (HL)`, 0x35 (R193). -/
def execDecAtHL (s : State) : Result := decTarget .atHL s

/-- `SCF`, 0x37 (R196). -/
def execScf (s : State) : Result := complete 4 (s.setFlags { s.flags with n := false, h := false, c := true })

/-- `INC A`, 0x3C (R190). -/
def execIncA (s : State) : Result := incTarget (.reg .a) s

/-- `DEC A`, 0x3D (R192). -/
def execDecA (s : State) : Result := decTarget (.reg .a) s

/-- `CCF`, 0x3F (R197). -/
def execCcf (s : State) : Result := complete 4 (s.setFlags { s.flags with n := false, h := false, c := !s.flags.c })

/-- `ADD A,B`, 0x80 (R182). -/
def execAddAB (s : State) : Result := aluOnA .add (.reg .b) s

/-- `ADD A,C`, 0x81 (R182). -/
def execAddAC (s : State) : Result := aluOnA .add (.reg .c) s

/-- `ADD A,D`, 0x82 (R182). -/
def execAddAD (s : State) : Result := aluOnA .add (.reg .d) s

/-- `ADD A,E`, 0x83 (R182). -/
def execAddAE (s : State) : Result := aluOnA .add (.reg .e) s

/-- `ADD A,H`, 0x84 (R182). -/
def execAddAH (s : State) : Result := aluOnA .add (.reg .h) s

/-- `ADD A,L`, 0x85 (R182). -/
def execAddAL (s : State) : Result := aluOnA .add (.reg .l) s

/-- `ADD A,(HL)`, 0x86 (R182). -/
def execAddAAtHL (s : State) : Result := aluOnA .add .atHL s

/-- `ADD A,A`, 0x87 (R182). -/
def execAddAA (s : State) : Result := aluOnA .add (.reg .a) s

/-- `ADC A,B`, 0x88 (R183). -/
def execAdcAB (s : State) : Result := aluOnA .adc (.reg .b) s

/-- `ADC A,C`, 0x89 (R183). -/
def execAdcAC (s : State) : Result := aluOnA .adc (.reg .c) s

/-- `ADC A,D`, 0x8A (R183). -/
def execAdcAD (s : State) : Result := aluOnA .adc (.reg .d) s

/-- `ADC A,E`, 0x8B (R183). -/
def execAdcAE (s : State) : Result := aluOnA .adc (.reg .e) s

/-- `ADC A,H`, 0x8C (R183). -/
def execAdcAH (s : State) : Result := aluOnA .adc (.reg .h) s

/-- `ADC A,L`, 0x8D (R183). -/
def execAdcAL (s : State) : Result := aluOnA .adc (.reg .l) s

/-- `ADC A,(HL)`, 0x8E (R183). -/
def execAdcAAtHL (s : State) : Result := aluOnA .adc .atHL s

/-- `ADC A,A`, 0x8F (R183). -/
def execAdcAA (s : State) : Result := aluOnA .adc (.reg .a) s

/-- `SUB A,B`, 0x90 (R184). -/
def execSubAB (s : State) : Result := aluOnA .sub (.reg .b) s

/-- `SUB A,C`, 0x91 (R184). -/
def execSubAC (s : State) : Result := aluOnA .sub (.reg .c) s

/-- `SUB A,D`, 0x92 (R184). -/
def execSubAD (s : State) : Result := aluOnA .sub (.reg .d) s

/-- `SUB A,E`, 0x93 (R184). -/
def execSubAE (s : State) : Result := aluOnA .sub (.reg .e) s

/-- `SUB A,H`, 0x94 (R184). -/
def execSubAH (s : State) : Result := aluOnA .sub (.reg .h) s

/-- `SUB A,L`, 0x95 (R184). -/
def execSubAL (s : State) : Result := aluOnA .sub (.reg .l) s

/-- `SUB A,(HL)`, 0x96 (R184). -/
def execSubAAtHL (s : State) : Result := aluOnA .sub .atHL s

/-- `SUB A,A`, 0x97 (R184). -/
def execSubAA (s : State) : Result := aluOnA .sub (.reg .a) s

/-- `SBC A,B`, 0x98 (R185). -/
def execSbcAB (s : State) : Result := aluOnA .sbc (.reg .b) s

/-- `SBC A,C`, 0x99 (R185). -/
def execSbcAC (s : State) : Result := aluOnA .sbc (.reg .c) s

/-- `SBC A,D`, 0x9A (R185). -/
def execSbcAD (s : State) : Result := aluOnA .sbc (.reg .d) s

/-- `SBC A,E`, 0x9B (R185). -/
def execSbcAE (s : State) : Result := aluOnA .sbc (.reg .e) s

/-- `SBC A,H`, 0x9C (R185). -/
def execSbcAH (s : State) : Result := aluOnA .sbc (.reg .h) s

/-- `SBC A,L`, 0x9D (R185). -/
def execSbcAL (s : State) : Result := aluOnA .sbc (.reg .l) s

/-- `SBC A,(HL)`, 0x9E (R185). -/
def execSbcAAtHL (s : State) : Result := aluOnA .sbc .atHL s

/-- `SBC A,A`, 0x9F (R185). -/
def execSbcAA (s : State) : Result := aluOnA .sbc (.reg .a) s

/-- `AND A,B`, 0xA0 (R186). -/
def execAndAB (s : State) : Result := aluOnA .and (.reg .b) s

/-- `AND A,C`, 0xA1 (R186). -/
def execAndAC (s : State) : Result := aluOnA .and (.reg .c) s

/-- `AND A,D`, 0xA2 (R186). -/
def execAndAD (s : State) : Result := aluOnA .and (.reg .d) s

/-- `AND A,E`, 0xA3 (R186). -/
def execAndAE (s : State) : Result := aluOnA .and (.reg .e) s

/-- `AND A,H`, 0xA4 (R186). -/
def execAndAH (s : State) : Result := aluOnA .and (.reg .h) s

/-- `AND A,L`, 0xA5 (R186). -/
def execAndAL (s : State) : Result := aluOnA .and (.reg .l) s

/-- `AND A,(HL)`, 0xA6 (R186). -/
def execAndAAtHL (s : State) : Result := aluOnA .and .atHL s

/-- `AND A,A`, 0xA7 (R186). -/
def execAndAA (s : State) : Result := aluOnA .and (.reg .a) s

/-- `XOR A,B`, 0xA8 (R187). -/
def execXorAB (s : State) : Result := aluOnA .xor (.reg .b) s

/-- `XOR A,C`, 0xA9 (R187). -/
def execXorAC (s : State) : Result := aluOnA .xor (.reg .c) s

/-- `XOR A,D`, 0xAA (R187). -/
def execXorAD (s : State) : Result := aluOnA .xor (.reg .d) s

/-- `XOR A,E`, 0xAB (R187). -/
def execXorAE (s : State) : Result := aluOnA .xor (.reg .e) s

/-- `XOR A,H`, 0xAC (R187). -/
def execXorAH (s : State) : Result := aluOnA .xor (.reg .h) s

/-- `XOR A,L`, 0xAD (R187). -/
def execXorAL (s : State) : Result := aluOnA .xor (.reg .l) s

/-- `XOR A,(HL)`, 0xAE (R187). -/
def execXorAAtHL (s : State) : Result := aluOnA .xor .atHL s

/-- `XOR A,A`, 0xAF (R187). -/
def execXorAA (s : State) : Result := aluOnA .xor (.reg .a) s

/-- `OR A,B`, 0xB0 (R188). -/
def execOrAB (s : State) : Result := aluOnA .or (.reg .b) s

/-- `OR A,C`, 0xB1 (R188). -/
def execOrAC (s : State) : Result := aluOnA .or (.reg .c) s

/-- `OR A,D`, 0xB2 (R188). -/
def execOrAD (s : State) : Result := aluOnA .or (.reg .d) s

/-- `OR A,E`, 0xB3 (R188). -/
def execOrAE (s : State) : Result := aluOnA .or (.reg .e) s

/-- `OR A,H`, 0xB4 (R188). -/
def execOrAH (s : State) : Result := aluOnA .or (.reg .h) s

/-- `OR A,L`, 0xB5 (R188). -/
def execOrAL (s : State) : Result := aluOnA .or (.reg .l) s

/-- `OR A,(HL)`, 0xB6 (R188). -/
def execOrAAtHL (s : State) : Result := aluOnA .or .atHL s

/-- `OR A,A`, 0xB7 (R188). -/
def execOrAA (s : State) : Result := aluOnA .or (.reg .a) s

/-- `CP A,B`, 0xB8 (R189). -/
def execCpAB (s : State) : Result := aluOnA .cp (.reg .b) s

/-- `CP A,C`, 0xB9 (R189). -/
def execCpAC (s : State) : Result := aluOnA .cp (.reg .c) s

/-- `CP A,D`, 0xBA (R189). -/
def execCpAD (s : State) : Result := aluOnA .cp (.reg .d) s

/-- `CP A,E`, 0xBB (R189). -/
def execCpAE (s : State) : Result := aluOnA .cp (.reg .e) s

/-- `CP A,H`, 0xBC (R189). -/
def execCpAH (s : State) : Result := aluOnA .cp (.reg .h) s

/-- `CP A,L`, 0xBD (R189). -/
def execCpAL (s : State) : Result := aluOnA .cp (.reg .l) s

/-- `CP A,(HL)`, 0xBE (R189). -/
def execCpAAtHL (s : State) : Result := aluOnA .cp .atHL s

/-- `CP A,A`, 0xBF (R189). -/
def execCpAA (s : State) : Result := aluOnA .cp (.reg .a) s

/-- `ADD A,n`, 0xC6 (R182). -/
def execAddAN (n : Byte) (s : State) : Result := aluOnA .add (.imm n) s

/-- `ADC A,n`, 0xCE (R183). -/
def execAdcAN (n : Byte) (s : State) : Result := aluOnA .adc (.imm n) s

/-- `SUB A,n`, 0xD6 (R184). -/
def execSubAN (n : Byte) (s : State) : Result := aluOnA .sub (.imm n) s

/-- `SBC A,n`, 0xDE (R185). -/
def execSbcAN (n : Byte) (s : State) : Result := aluOnA .sbc (.imm n) s

/-- `AND A,n`, 0xE6 (R186). -/
def execAndAN (n : Byte) (s : State) : Result := aluOnA .and (.imm n) s

/-- `XOR A,n`, 0xEE (R187). -/
def execXorAN (n : Byte) (s : State) : Result := aluOnA .xor (.imm n) s

/-- `OR A,n`, 0xF6 (R188). -/
def execOrAN (n : Byte) (s : State) : Result := aluOnA .or (.imm n) s

/-- `CP A,n`, 0xFE (R189). -/
def execCpAN (n : Byte) (s : State) : Result := aluOnA .cp (.imm n) s

end Sys2Proof.Machine
end

