-- ==== Sys2Proof/WellFormed.lean ====
section
/-! DEFINITION. Which terms of `Instr` are instructions. Every operand field admits every value (R102, R103, R114),
so the one check is that 0xCB is "a prefix, not an instruction on its own" (R110): the term of its table row is none. -/

namespace Sys2Proof

/-- The check as a Bool: everything but the bare prefix row is an instruction (R110, R113, R114). -/
def Instr.wellFormed : Instr → Bool
  | .prefixCB _ => false
  | _ => true

/-- `i` is an instruction the decoder can produce. -/
abbrev Instr.WellFormed (i : Instr) : Prop := i.wellFormed = true

end Sys2Proof
end

