-- ==== Sys2Proof/Decode.lean ====
section
/-! DEFINITION. The decoder (30_encoding.md R100 to R115), total on any bytes, and after it the encoder. The primary map is
written row by row as R111 prints it; the CB table is read from its fields as R110 and R109 give them. -/

namespace Sys2Proof

/-! ## Views: the instructions of one field pattern, by the values of their fields (R112) -/

/-- `LD r,r'`, pattern `01 ddd sss` (R141). -/
def Instr.ldRegReg : Reg8 → Reg8 → Instr
  | .b, .b => .ldBB
  | .b, .c => .ldBC
  | .b, .d => .ldBD
  | .b, .e => .ldBE
  | .b, .h => .ldBH
  | .b, .l => .ldBL
  | .b, .a => .ldBA
  | .c, .b => .ldCB
  | .c, .c => .ldCC
  | .c, .d => .ldCD
  | .c, .e => .ldCE
  | .c, .h => .ldCH
  | .c, .l => .ldCL
  | .c, .a => .ldCA
  | .d, .b => .ldDB
  | .d, .c => .ldDC
  | .d, .d => .ldDD
  | .d, .e => .ldDE
  | .d, .h => .ldDH
  | .d, .l => .ldDL
  | .d, .a => .ldDA
  | .e, .b => .ldEB
  | .e, .c => .ldEC
  | .e, .d => .ldED
  | .e, .e => .ldEE
  | .e, .h => .ldEH
  | .e, .l => .ldEL
  | .e, .a => .ldEA
  | .h, .b => .ldHB
  | .h, .c => .ldHC
  | .h, .d => .ldHD
  | .h, .e => .ldHE
  | .h, .h => .ldHH
  | .h, .l => .ldHL
  | .h, .a => .ldHA
  | .l, .b => .ldLB
  | .l, .c => .ldLC
  | .l, .d => .ldLD
  | .l, .e => .ldLE
  | .l, .h => .ldLH
  | .l, .l => .ldLL
  | .l, .a => .ldLA
  | .a, .b => .ldAB
  | .a, .c => .ldAC
  | .a, .d => .ldAD
  | .a, .e => .ldAE
  | .a, .h => .ldAH
  | .a, .l => .ldAL
  | .a, .a => .ldAA

/-- `LD r,n`, pattern `00 ddd 110` (R142). -/
def Instr.ldRegImm : Reg8 → Byte → Instr
  | .b, n => .ldBN n
  | .c, n => .ldCN n
  | .d, n => .ldDN n
  | .e, n => .ldEN n
  | .h, n => .ldHN n
  | .l, n => .ldLN n
  | .a, n => .ldAN n

/-- `LD r,(HL)`, pattern `01 ddd 110` (R143). -/
def Instr.ldRegAtHL : Reg8 → Instr
  | .b => .ldBAtHL
  | .c => .ldCAtHL
  | .d => .ldDAtHL
  | .e => .ldEAtHL
  | .h => .ldHAtHL
  | .l => .ldLAtHL
  | .a => .ldAAtHL

/-- `LD (HL),r`, pattern `01 110 sss` (R144). -/
def Instr.ldAtHLReg : Reg8 → Instr
  | .b => .ldAtHLB
  | .c => .ldAtHLC
  | .d => .ldAtHLD
  | .e => .ldAtHLE
  | .h => .ldAtHLH
  | .l => .ldAtHLL
  | .a => .ldAtHLA

/-- `LD rr,nn`, pattern `00 pp0 001` (R160). -/
def Instr.ldPairImm : Pair → Word → Instr
  | .bc, nn => .ldBCNn nn
  | .de, nn => .ldDENn nn
  | .hl, nn => .ldHLNn nn
  | .sp, nn => .ldSPNn nn

/-- `PUSH rr`, pattern `11 pp0 101` (R164). -/
def Instr.push : StackPair → Instr
  | .bc => .pushBC
  | .de => .pushDE
  | .hl => .pushHL
  | .af => .pushAF

/-- `POP rr`, pattern `11 pp0 001` (R165, and R166 for AF). -/
def Instr.pop : StackPair → Instr
  | .bc => .popBC
  | .de => .popDE
  | .hl => .popHL
  | .af => .popAF

/-- ALU operations on A with a register or (HL), pattern `10 aaa sss` (R181 to R189). -/
def Instr.aluReg : AluOp → Target → Instr
  | .add, .reg .b => .addAB
  | .add, .reg .c => .addAC
  | .add, .reg .d => .addAD
  | .add, .reg .e => .addAE
  | .add, .reg .h => .addAH
  | .add, .reg .l => .addAL
  | .add, .atHL => .addAAtHL
  | .add, .reg .a => .addAA
  | .adc, .reg .b => .adcAB
  | .adc, .reg .c => .adcAC
  | .adc, .reg .d => .adcAD
  | .adc, .reg .e => .adcAE
  | .adc, .reg .h => .adcAH
  | .adc, .reg .l => .adcAL
  | .adc, .atHL => .adcAAtHL
  | .adc, .reg .a => .adcAA
  | .sub, .reg .b => .subAB
  | .sub, .reg .c => .subAC
  | .sub, .reg .d => .subAD
  | .sub, .reg .e => .subAE
  | .sub, .reg .h => .subAH
  | .sub, .reg .l => .subAL
  | .sub, .atHL => .subAAtHL
  | .sub, .reg .a => .subAA
  | .sbc, .reg .b => .sbcAB
  | .sbc, .reg .c => .sbcAC
  | .sbc, .reg .d => .sbcAD
  | .sbc, .reg .e => .sbcAE
  | .sbc, .reg .h => .sbcAH
  | .sbc, .reg .l => .sbcAL
  | .sbc, .atHL => .sbcAAtHL
  | .sbc, .reg .a => .sbcAA
  | .and, .reg .b => .andAB
  | .and, .reg .c => .andAC
  | .and, .reg .d => .andAD
  | .and, .reg .e => .andAE
  | .and, .reg .h => .andAH
  | .and, .reg .l => .andAL
  | .and, .atHL => .andAAtHL
  | .and, .reg .a => .andAA
  | .xor, .reg .b => .xorAB
  | .xor, .reg .c => .xorAC
  | .xor, .reg .d => .xorAD
  | .xor, .reg .e => .xorAE
  | .xor, .reg .h => .xorAH
  | .xor, .reg .l => .xorAL
  | .xor, .atHL => .xorAAtHL
  | .xor, .reg .a => .xorAA
  | .or, .reg .b => .orAB
  | .or, .reg .c => .orAC
  | .or, .reg .d => .orAD
  | .or, .reg .e => .orAE
  | .or, .reg .h => .orAH
  | .or, .reg .l => .orAL
  | .or, .atHL => .orAAtHL
  | .or, .reg .a => .orAA
  | .cp, .reg .b => .cpAB
  | .cp, .reg .c => .cpAC
  | .cp, .reg .d => .cpAD
  | .cp, .reg .e => .cpAE
  | .cp, .reg .h => .cpAH
  | .cp, .reg .l => .cpAL
  | .cp, .atHL => .cpAAtHL
  | .cp, .reg .a => .cpAA

/-- ALU operations on A with an immediate, pattern `11 aaa 110` (R181 to R189). -/
def Instr.aluImm : AluOp → Byte → Instr
  | .add, n => .addAN n
  | .adc, n => .adcAN n
  | .sub, n => .subAN n
  | .sbc, n => .sbcAN n
  | .and, n => .andAN n
  | .xor, n => .xorAN n
  | .or, n => .orAN n
  | .cp, n => .cpAN n

/-- `INC r`, pattern `00 ddd 100` (R190). -/
def Instr.incReg : Reg8 → Instr
  | .b => .incB
  | .c => .incC
  | .d => .incD
  | .e => .incE
  | .h => .incH
  | .l => .incL
  | .a => .incA

/-- `DEC r`, pattern `00 ddd 101` (R192). -/
def Instr.decReg : Reg8 → Instr
  | .b => .decB
  | .c => .decC
  | .d => .decD
  | .e => .decE
  | .h => .decH
  | .l => .decL
  | .a => .decA

/-- `ADD HL,rr`, pattern `00 pp1 001` (R210). -/
def Instr.addHLPair : Pair → Instr
  | .bc => .addHLBC
  | .de => .addHLDE
  | .hl => .addHLHL
  | .sp => .addHLSP

/-- `INC rr`, pattern `00 pp0 011` (R211). -/
def Instr.incPair : Pair → Instr
  | .bc => .incBC
  | .de => .incDE
  | .hl => .incHL
  | .sp => .incSP

/-- `DEC rr`, pattern `00 pp1 011` (R212). -/
def Instr.decPair : Pair → Instr
  | .bc => .decBC
  | .de => .decDE
  | .hl => .decHL
  | .sp => .decSP

/-- `JP cc,nn`, pattern `11 0cc 010` (R242). -/
def Instr.jpCond : Cond → Word → Instr
  | .nz, nn => .jpNZNn nn
  | .z, nn => .jpZNn nn
  | .nc, nn => .jpNCNn nn
  | .c, nn => .jpCNn nn

/-- `JR cc,e`, pattern `00 1cc 000` (R245). -/
def Instr.jrCond : Cond → Byte → Instr
  | .nz, e => .jrNZE e
  | .z, e => .jrZE e
  | .nc, e => .jrNCE e
  | .c, e => .jrCE e

/-- `CALL cc,nn`, pattern `11 0cc 100` (R247). -/
def Instr.callCond : Cond → Word → Instr
  | .nz, nn => .callNZNn nn
  | .z, nn => .callZNn nn
  | .nc, nn => .callNCNn nn
  | .c, nn => .callCNn nn

/-- `RET cc`, pattern `11 0cc 000` (R249). -/
def Instr.retCond : Cond → Instr
  | .nz => .retNZ
  | .z => .retZ
  | .nc => .retNC
  | .c => .retC

/-- `RST t*8`, pattern `11 ttt 111` (R251). -/
def Instr.rst : Fin 8 → Instr
  | 0 => .rst00H
  | 1 => .rst08H
  | 2 => .rst10H
  | 3 => .rst18H
  | 4 => .rst20H
  | 5 => .rst28H
  | 6 => .rst30H
  | 7 => .rst38H

/-- The CB rotate/shift group, pattern `00 ooo rrr` of the CB byte (R110, R225 to R232). -/
def Instr.rotate : RotOp → Target → Instr
  | .rlc, .reg .b => .rlcB
  | .rlc, .reg .c => .rlcC
  | .rlc, .reg .d => .rlcD
  | .rlc, .reg .e => .rlcE
  | .rlc, .reg .h => .rlcH
  | .rlc, .reg .l => .rlcL
  | .rlc, .atHL => .rlcAtHL
  | .rlc, .reg .a => .rlcA
  | .rrc, .reg .b => .rrcB
  | .rrc, .reg .c => .rrcC
  | .rrc, .reg .d => .rrcD
  | .rrc, .reg .e => .rrcE
  | .rrc, .reg .h => .rrcH
  | .rrc, .reg .l => .rrcL
  | .rrc, .atHL => .rrcAtHL
  | .rrc, .reg .a => .rrcA
  | .rl, .reg .b => .rlB
  | .rl, .reg .c => .rlC
  | .rl, .reg .d => .rlD
  | .rl, .reg .e => .rlE
  | .rl, .reg .h => .rlH
  | .rl, .reg .l => .rlL
  | .rl, .atHL => .rlAtHL
  | .rl, .reg .a => .rlA
  | .rr, .reg .b => .rrB
  | .rr, .reg .c => .rrC
  | .rr, .reg .d => .rrD
  | .rr, .reg .e => .rrE
  | .rr, .reg .h => .rrH
  | .rr, .reg .l => .rrL
  | .rr, .atHL => .rrAtHL
  | .rr, .reg .a => .rrA
  | .sla, .reg .b => .slaB
  | .sla, .reg .c => .slaC
  | .sla, .reg .d => .slaD
  | .sla, .reg .e => .slaE
  | .sla, .reg .h => .slaH
  | .sla, .reg .l => .slaL
  | .sla, .atHL => .slaAtHL
  | .sla, .reg .a => .slaA
  | .sra, .reg .b => .sraB
  | .sra, .reg .c => .sraC
  | .sra, .reg .d => .sraD
  | .sra, .reg .e => .sraE
  | .sra, .reg .h => .sraH
  | .sra, .reg .l => .sraL
  | .sra, .atHL => .sraAtHL
  | .sra, .reg .a => .sraA
  | .swap, .reg .b => .swapB
  | .swap, .reg .c => .swapC
  | .swap, .reg .d => .swapD
  | .swap, .reg .e => .swapE
  | .swap, .reg .h => .swapH
  | .swap, .reg .l => .swapL
  | .swap, .atHL => .swapAtHL
  | .swap, .reg .a => .swapA
  | .srl, .reg .b => .srlB
  | .srl, .reg .c => .srlC
  | .srl, .reg .d => .srlD
  | .srl, .reg .e => .srlE
  | .srl, .reg .h => .srlH
  | .srl, .reg .l => .srlL
  | .srl, .atHL => .srlAtHL
  | .srl, .reg .a => .srlA

/-- `BIT b,r`, pattern `01 bbb rrr` of the CB byte (R110, R233). -/
def Instr.bit : Fin 8 → Target → Instr
  | 0, .reg .b => .bit0B
  | 0, .reg .c => .bit0C
  | 0, .reg .d => .bit0D
  | 0, .reg .e => .bit0E
  | 0, .reg .h => .bit0H
  | 0, .reg .l => .bit0L
  | 0, .atHL => .bit0AtHL
  | 0, .reg .a => .bit0A
  | 1, .reg .b => .bit1B
  | 1, .reg .c => .bit1C
  | 1, .reg .d => .bit1D
  | 1, .reg .e => .bit1E
  | 1, .reg .h => .bit1H
  | 1, .reg .l => .bit1L
  | 1, .atHL => .bit1AtHL
  | 1, .reg .a => .bit1A
  | 2, .reg .b => .bit2B
  | 2, .reg .c => .bit2C
  | 2, .reg .d => .bit2D
  | 2, .reg .e => .bit2E
  | 2, .reg .h => .bit2H
  | 2, .reg .l => .bit2L
  | 2, .atHL => .bit2AtHL
  | 2, .reg .a => .bit2A
  | 3, .reg .b => .bit3B
  | 3, .reg .c => .bit3C
  | 3, .reg .d => .bit3D
  | 3, .reg .e => .bit3E
  | 3, .reg .h => .bit3H
  | 3, .reg .l => .bit3L
  | 3, .atHL => .bit3AtHL
  | 3, .reg .a => .bit3A
  | 4, .reg .b => .bit4B
  | 4, .reg .c => .bit4C
  | 4, .reg .d => .bit4D
  | 4, .reg .e => .bit4E
  | 4, .reg .h => .bit4H
  | 4, .reg .l => .bit4L
  | 4, .atHL => .bit4AtHL
  | 4, .reg .a => .bit4A
  | 5, .reg .b => .bit5B
  | 5, .reg .c => .bit5C
  | 5, .reg .d => .bit5D
  | 5, .reg .e => .bit5E
  | 5, .reg .h => .bit5H
  | 5, .reg .l => .bit5L
  | 5, .atHL => .bit5AtHL
  | 5, .reg .a => .bit5A
  | 6, .reg .b => .bit6B
  | 6, .reg .c => .bit6C
  | 6, .reg .d => .bit6D
  | 6, .reg .e => .bit6E
  | 6, .reg .h => .bit6H
  | 6, .reg .l => .bit6L
  | 6, .atHL => .bit6AtHL
  | 6, .reg .a => .bit6A
  | 7, .reg .b => .bit7B
  | 7, .reg .c => .bit7C
  | 7, .reg .d => .bit7D
  | 7, .reg .e => .bit7E
  | 7, .reg .h => .bit7H
  | 7, .reg .l => .bit7L
  | 7, .atHL => .bit7AtHL
  | 7, .reg .a => .bit7A

/-- `RES b,r`, pattern `10 bbb rrr` of the CB byte (R110, R234). -/
def Instr.res : Fin 8 → Target → Instr
  | 0, .reg .b => .res0B
  | 0, .reg .c => .res0C
  | 0, .reg .d => .res0D
  | 0, .reg .e => .res0E
  | 0, .reg .h => .res0H
  | 0, .reg .l => .res0L
  | 0, .atHL => .res0AtHL
  | 0, .reg .a => .res0A
  | 1, .reg .b => .res1B
  | 1, .reg .c => .res1C
  | 1, .reg .d => .res1D
  | 1, .reg .e => .res1E
  | 1, .reg .h => .res1H
  | 1, .reg .l => .res1L
  | 1, .atHL => .res1AtHL
  | 1, .reg .a => .res1A
  | 2, .reg .b => .res2B
  | 2, .reg .c => .res2C
  | 2, .reg .d => .res2D
  | 2, .reg .e => .res2E
  | 2, .reg .h => .res2H
  | 2, .reg .l => .res2L
  | 2, .atHL => .res2AtHL
  | 2, .reg .a => .res2A
  | 3, .reg .b => .res3B
  | 3, .reg .c => .res3C
  | 3, .reg .d => .res3D
  | 3, .reg .e => .res3E
  | 3, .reg .h => .res3H
  | 3, .reg .l => .res3L
  | 3, .atHL => .res3AtHL
  | 3, .reg .a => .res3A
  | 4, .reg .b => .res4B
  | 4, .reg .c => .res4C
  | 4, .reg .d => .res4D
  | 4, .reg .e => .res4E
  | 4, .reg .h => .res4H
  | 4, .reg .l => .res4L
  | 4, .atHL => .res4AtHL
  | 4, .reg .a => .res4A
  | 5, .reg .b => .res5B
  | 5, .reg .c => .res5C
  | 5, .reg .d => .res5D
  | 5, .reg .e => .res5E
  | 5, .reg .h => .res5H
  | 5, .reg .l => .res5L
  | 5, .atHL => .res5AtHL
  | 5, .reg .a => .res5A
  | 6, .reg .b => .res6B
  | 6, .reg .c => .res6C
  | 6, .reg .d => .res6D
  | 6, .reg .e => .res6E
  | 6, .reg .h => .res6H
  | 6, .reg .l => .res6L
  | 6, .atHL => .res6AtHL
  | 6, .reg .a => .res6A
  | 7, .reg .b => .res7B
  | 7, .reg .c => .res7C
  | 7, .reg .d => .res7D
  | 7, .reg .e => .res7E
  | 7, .reg .h => .res7H
  | 7, .reg .l => .res7L
  | 7, .atHL => .res7AtHL
  | 7, .reg .a => .res7A

/-- `SET b,r`, pattern `11 bbb rrr` of the CB byte (R110, R235). -/
def Instr.set : Fin 8 → Target → Instr
  | 0, .reg .b => .set0B
  | 0, .reg .c => .set0C
  | 0, .reg .d => .set0D
  | 0, .reg .e => .set0E
  | 0, .reg .h => .set0H
  | 0, .reg .l => .set0L
  | 0, .atHL => .set0AtHL
  | 0, .reg .a => .set0A
  | 1, .reg .b => .set1B
  | 1, .reg .c => .set1C
  | 1, .reg .d => .set1D
  | 1, .reg .e => .set1E
  | 1, .reg .h => .set1H
  | 1, .reg .l => .set1L
  | 1, .atHL => .set1AtHL
  | 1, .reg .a => .set1A
  | 2, .reg .b => .set2B
  | 2, .reg .c => .set2C
  | 2, .reg .d => .set2D
  | 2, .reg .e => .set2E
  | 2, .reg .h => .set2H
  | 2, .reg .l => .set2L
  | 2, .atHL => .set2AtHL
  | 2, .reg .a => .set2A
  | 3, .reg .b => .set3B
  | 3, .reg .c => .set3C
  | 3, .reg .d => .set3D
  | 3, .reg .e => .set3E
  | 3, .reg .h => .set3H
  | 3, .reg .l => .set3L
  | 3, .atHL => .set3AtHL
  | 3, .reg .a => .set3A
  | 4, .reg .b => .set4B
  | 4, .reg .c => .set4C
  | 4, .reg .d => .set4D
  | 4, .reg .e => .set4E
  | 4, .reg .h => .set4H
  | 4, .reg .l => .set4L
  | 4, .atHL => .set4AtHL
  | 4, .reg .a => .set4A
  | 5, .reg .b => .set5B
  | 5, .reg .c => .set5C
  | 5, .reg .d => .set5D
  | 5, .reg .e => .set5E
  | 5, .reg .h => .set5H
  | 5, .reg .l => .set5L
  | 5, .atHL => .set5AtHL
  | 5, .reg .a => .set5A
  | 6, .reg .b => .set6B
  | 6, .reg .c => .set6C
  | 6, .reg .d => .set6D
  | 6, .reg .e => .set6E
  | 6, .reg .h => .set6H
  | 6, .reg .l => .set6L
  | 6, .atHL => .set6AtHL
  | 6, .reg .a => .set6A
  | 7, .reg .b => .set7B
  | 7, .reg .c => .set7C
  | 7, .reg .d => .set7D
  | 7, .reg .e => .set7E
  | 7, .reg .h => .set7H
  | 7, .reg .l => .set7L
  | 7, .atHL => .set7AtHL
  | 7, .reg .a => .set7A

/-- The eleven invalid primary bytes (R113), with the constructor of each. -/
def invalidBytes : List (Byte × Instr) :=
  [(0xD3#8, .invalidD3), (0xDB#8, .invalidDB), (0xDD#8, .invalidDD), (0xE3#8, .invalidE3),
   (0xE4#8, .invalidE4), (0xEB#8, .invalidEB), (0xEC#8, .invalidEC), (0xED#8, .invalidED),
   (0xF4#8, .invalidF4), (0xFC#8, .invalidFC), (0xFD#8, .invalidFD)]

/-! ## Field values (R104 to R109) -/

/-- The register field `r` (R104): 0 to 5 = B, C, D, E, H, L; 6 = memory at HL; 7 = A. -/
def targetOfField (f : BitVec 3) : Target :=
  match f.toNat with
  | 0 => .reg .b
  | 1 => .reg .c
  | 2 => .reg .d
  | 3 => .reg .e
  | 4 => .reg .h
  | 5 => .reg .l
  | 6 => .atHL
  | _ => .reg .a

/-- The CB rotate/shift field (R109). -/
def rotOfField (f : BitVec 3) : RotOp :=
  match f.toNat with
  | 0 => .rlc
  | 1 => .rrc
  | 2 => .rl
  | 3 => .rr
  | 4 => .sla
  | 5 => .sra
  | 6 => .swap
  | _ => .srl

/-- The bit index `b` (R110). -/
def bitOfField (f : BitVec 3) : Fin 8 := f.toFin

/-- The instruction after the prefix 0xCB, from the fields of its second byte (R110). All 256 values are valid. -/
def cbInstr (cb : Byte) : Instr :=
  match (cb.extractLsb' 6 2).toNat with
  | 0 => .rotate (rotOfField (cb.extractLsb' 3 3)) (targetOfField (cb.extractLsb' 0 3))
  | 1 => .bit (bitOfField (cb.extractLsb' 3 3)) (targetOfField (cb.extractLsb' 0 3))
  | 2 => .res (bitOfField (cb.extractLsb' 3 3)) (targetOfField (cb.extractLsb' 0 3))
  | _ => .set (bitOfField (cb.extractLsb' 3 3)) (targetOfField (cb.extractLsb' 0 3))

/-! ## The primary map (R111) -/

/-- What a first byte selects (R100): an instruction complete in one byte, or one that takes one or two further bytes. The
length of an instruction is decided by its first byte alone. -/
inductive Form where
  | op0 (i : Instr)
  | op1 (f : Byte → Instr)
  | op2 (f : Word → Instr)

/-- The length in bytes of an instruction of this form (R100). -/
def Form.length : Form → Nat
  | .op0 _ => 1
  | .op1 _ => 2
  | .op2 _ => 3

/-- Row 0x of R111. -/
def primaryRow0 : List Form :=
  [.op0 .nop, .op2 .ldBCNn, .op0 .ldAtBCA, .op0 .incBC,
   .op0 .incB, .op0 .decB, .op1 .ldBN, .op0 .rlca,
   .op2 .ldAtNnSP, .op0 .addHLBC, .op0 .ldAAtBC, .op0 .decBC,
   .op0 .incC, .op0 .decC, .op1 .ldCN, .op0 .rrca]

/-- Row 1x of R111. -/
def primaryRow1 : List Form :=
  [.op1 .stop, .op2 .ldDENn, .op0 .ldAtDEA, .op0 .incDE,
   .op0 .incD, .op0 .decD, .op1 .ldDN, .op0 .rla,
   .op1 .jrE, .op0 .addHLDE, .op0 .ldAAtDE, .op0 .decDE,
   .op0 .incE, .op0 .decE, .op1 .ldEN, .op0 .rra]

/-- Row 2x of R111. -/
def primaryRow2 : List Form :=
  [.op1 .jrNZE, .op2 .ldHLNn, .op0 .ldAtHLIncA, .op0 .incHL,
   .op0 .incH, .op0 .decH, .op1 .ldHN, .op0 .daa,
   .op1 .jrZE, .op0 .addHLHL, .op0 .ldAAtHLInc, .op0 .decHL,
   .op0 .incL, .op0 .decL, .op1 .ldLN, .op0 .cpl]

/-- Row 3x of R111. -/
def primaryRow3 : List Form :=
  [.op1 .jrNCE, .op2 .ldSPNn, .op0 .ldAtHLDecA, .op0 .incSP,
   .op0 .incAtHL, .op0 .decAtHL, .op1 .ldAtHLN, .op0 .scf,
   .op1 .jrCE, .op0 .addHLSP, .op0 .ldAAtHLDec, .op0 .decSP,
   .op0 .incA, .op0 .decA, .op1 .ldAN, .op0 .ccf]

/-- Row 4x of R111. -/
def primaryRow4 : List Form :=
  [.op0 .ldBB, .op0 .ldBC, .op0 .ldBD, .op0 .ldBE,
   .op0 .ldBH, .op0 .ldBL, .op0 .ldBAtHL, .op0 .ldBA,
   .op0 .ldCB, .op0 .ldCC, .op0 .ldCD, .op0 .ldCE,
   .op0 .ldCH, .op0 .ldCL, .op0 .ldCAtHL, .op0 .ldCA]

/-- Row 5x of R111. -/
def primaryRow5 : List Form :=
  [.op0 .ldDB, .op0 .ldDC, .op0 .ldDD, .op0 .ldDE,
   .op0 .ldDH, .op0 .ldDL, .op0 .ldDAtHL, .op0 .ldDA,
   .op0 .ldEB, .op0 .ldEC, .op0 .ldED, .op0 .ldEE,
   .op0 .ldEH, .op0 .ldEL, .op0 .ldEAtHL, .op0 .ldEA]

/-- Row 6x of R111. -/
def primaryRow6 : List Form :=
  [.op0 .ldHB, .op0 .ldHC, .op0 .ldHD, .op0 .ldHE,
   .op0 .ldHH, .op0 .ldHL, .op0 .ldHAtHL, .op0 .ldHA,
   .op0 .ldLB, .op0 .ldLC, .op0 .ldLD, .op0 .ldLE,
   .op0 .ldLH, .op0 .ldLL, .op0 .ldLAtHL, .op0 .ldLA]

/-- Row 7x of R111. -/
def primaryRow7 : List Form :=
  [.op0 .ldAtHLB, .op0 .ldAtHLC, .op0 .ldAtHLD, .op0 .ldAtHLE,
   .op0 .ldAtHLH, .op0 .ldAtHLL, .op0 .halt, .op0 .ldAtHLA,
   .op0 .ldAB, .op0 .ldAC, .op0 .ldAD, .op0 .ldAE,
   .op0 .ldAH, .op0 .ldAL, .op0 .ldAAtHL, .op0 .ldAA]

/-- Row 8x of R111. -/
def primaryRow8 : List Form :=
  [.op0 .addAB, .op0 .addAC, .op0 .addAD, .op0 .addAE,
   .op0 .addAH, .op0 .addAL, .op0 .addAAtHL, .op0 .addAA,
   .op0 .adcAB, .op0 .adcAC, .op0 .adcAD, .op0 .adcAE,
   .op0 .adcAH, .op0 .adcAL, .op0 .adcAAtHL, .op0 .adcAA]

/-- Row 9x of R111. -/
def primaryRow9 : List Form :=
  [.op0 .subAB, .op0 .subAC, .op0 .subAD, .op0 .subAE,
   .op0 .subAH, .op0 .subAL, .op0 .subAAtHL, .op0 .subAA,
   .op0 .sbcAB, .op0 .sbcAC, .op0 .sbcAD, .op0 .sbcAE,
   .op0 .sbcAH, .op0 .sbcAL, .op0 .sbcAAtHL, .op0 .sbcAA]

/-- Row Ax of R111. -/
def primaryRowA : List Form :=
  [.op0 .andAB, .op0 .andAC, .op0 .andAD, .op0 .andAE,
   .op0 .andAH, .op0 .andAL, .op0 .andAAtHL, .op0 .andAA,
   .op0 .xorAB, .op0 .xorAC, .op0 .xorAD, .op0 .xorAE,
   .op0 .xorAH, .op0 .xorAL, .op0 .xorAAtHL, .op0 .xorAA]

/-- Row Bx of R111. -/
def primaryRowB : List Form :=
  [.op0 .orAB, .op0 .orAC, .op0 .orAD, .op0 .orAE,
   .op0 .orAH, .op0 .orAL, .op0 .orAAtHL, .op0 .orAA,
   .op0 .cpAB, .op0 .cpAC, .op0 .cpAD, .op0 .cpAE,
   .op0 .cpAH, .op0 .cpAL, .op0 .cpAAtHL, .op0 .cpAA]

/-- Row Cx of R111. -/
def primaryRowC : List Form :=
  [.op0 .retNZ, .op0 .popBC, .op2 .jpNZNn, .op2 .jpNn,
   .op2 .callNZNn, .op0 .pushBC, .op1 .addAN, .op0 .rst00H,
   .op0 .retZ, .op0 .ret, .op2 .jpZNn, .op1 cbInstr,
   .op2 .callZNn, .op2 .callNn, .op1 .adcAN, .op0 .rst08H]

/-- Row Dx of R111. -/
def primaryRowD : List Form :=
  [.op0 .retNC, .op0 .popDE, .op2 .jpNCNn, .op0 .invalidD3,
   .op2 .callNCNn, .op0 .pushDE, .op1 .subAN, .op0 .rst10H,
   .op0 .retC, .op0 .reti, .op2 .jpCNn, .op0 .invalidDB,
   .op2 .callCNn, .op0 .invalidDD, .op1 .sbcAN, .op0 .rst18H]

/-- Row Ex of R111. -/
def primaryRowE : List Form :=
  [.op1 .ldhAtNA, .op0 .popHL, .op0 .ldAtCA, .op0 .invalidE3,
   .op0 .invalidE4, .op0 .pushHL, .op1 .andAN, .op0 .rst20H,
   .op1 .addSPE, .op0 .jpHL, .op2 .ldAtNnA, .op0 .invalidEB,
   .op0 .invalidEC, .op0 .invalidED, .op1 .xorAN, .op0 .rst28H]

/-- Row Fx of R111. -/
def primaryRowF : List Form :=
  [.op1 .ldhAAtN, .op0 .popAF, .op0 .ldAAtC, .op0 .di,
   .op0 .invalidF4, .op0 .pushAF, .op1 .orAN, .op0 .rst30H,
   .op1 .ldHLSPE, .op0 .ldSPHL, .op2 .ldAAtNn, .op0 .ei,
   .op0 .invalidFC, .op0 .invalidFD, .op1 .cpAN, .op0 .rst38H]

/-- The map of R111, by high nibble. -/
def primaryRows : List (List Form) :=
  [primaryRow0, primaryRow1, primaryRow2, primaryRow3, primaryRow4, primaryRow5, primaryRow6, primaryRow7,
   primaryRow8, primaryRow9, primaryRowA, primaryRowB, primaryRowC, primaryRowD, primaryRowE, primaryRowF]

/-- The cell of R111 at the high nibble and low nibble of a first byte. The rows are 16 by 16
(`primaryRows_complete`), so the defaults are never taken. -/
def primary (op : Byte) : Form :=
  (primaryRows.getD (op.toNat / 16) []).getD (op.toNat % 16) (.op0 .nop)

/-! ## The decoder -/

/-- Why a list of bytes is no instruction. There is one reason: every first byte and every CB byte is assigned (R115). -/
inductive DecodeError where
  /-- The list ends before the instruction does. Raised by `decode` alone, never by the machine, which fetches as many
  bytes as the form asks for; safe. -/
  | truncated
  deriving DecidableEq, Repr

/-- The instruction at the head of a list of bytes in address order, and the bytes after it (R100, R101). -/
def decode : List Byte → Except DecodeError (Instr × List Byte)
  | [] => .error .truncated
  | op :: rest =>
    match primary op, rest with
    | .op0 i, rest => .ok (i, rest)
    | .op1 f, n :: rest => .ok (f n, rest)
    | .op2 f, lo :: hi :: rest => .ok (f (joinBytes hi lo), rest)
    | _, _ => .error .truncated

/-- The bytes of one row of spec/opcode_table.json as a number of `nbits` bits, in address order, zeros after them. The first
byte is bits 7 to 0, but the table numbers its two-byte CB rows (`match` 0xCBxx, mask 0xFFFF) with the prefix, which is
the FIRST byte (R110), in bits 15 to 8: a 16-bit number whose upper byte is 0xCB is read so
(DESIGN CHOICE, notes/assumptions/9.md). -/
def tableBytes (nbits w : Nat) : List Byte :=
  let v := w % 2 ^ nbits
  if nbits = 16 ∧ v / 256 = 0xCB then
    [0xCB#8, BitVec.ofNat 8 v, 0x00#8]
  else
    [BitVec.ofNat 8 v, BitVec.ofNat 8 (v / 256), BitVec.ofNat 8 (v / 65536)]

/-- The instruction the decoder reads from a table word. -/
def decodeTableWord (nbits w : Nat) : Option Instr :=
  match decode (tableBytes nbits w) with
  | .ok (i, _) => some i
  | .error _ => none

/-! ## The encoder -/

/-- The bytes of an instruction in address order, from the `encoding` column of spec/opcode_table.json (R100, R103). -/
def encode : Instr → List Byte
  | .nop => [0x00#8]
  | .ldBCNn nn => [0x01#8, loByte nn, hiByte nn]
  | .ldAtBCA => [0x02#8]
  | .incBC => [0x03#8]
  | .incB => [0x04#8]
  | .decB => [0x05#8]
  | .ldBN n => [0x06#8, n]
  | .rlca => [0x07#8]
  | .ldAtNnSP nn => [0x08#8, loByte nn, hiByte nn]
  | .addHLBC => [0x09#8]
  | .ldAAtBC => [0x0A#8]
  | .decBC => [0x0B#8]
  | .incC => [0x0C#8]
  | .decC => [0x0D#8]
  | .ldCN n => [0x0E#8, n]
  | .rrca => [0x0F#8]
  | .stop n => [0x10#8, n]
  | .ldDENn nn => [0x11#8, loByte nn, hiByte nn]
  | .ldAtDEA => [0x12#8]
  | .incDE => [0x13#8]
  | .incD => [0x14#8]
  | .decD => [0x15#8]
  | .ldDN n => [0x16#8, n]
  | .rla => [0x17#8]
  | .jrE e => [0x18#8, e]
  | .addHLDE => [0x19#8]
  | .ldAAtDE => [0x1A#8]
  | .decDE => [0x1B#8]
  | .incE => [0x1C#8]
  | .decE => [0x1D#8]
  | .ldEN n => [0x1E#8, n]
  | .rra => [0x1F#8]
  | .jrNZE e => [0x20#8, e]
  | .ldHLNn nn => [0x21#8, loByte nn, hiByte nn]
  | .ldAtHLIncA => [0x22#8]
  | .incHL => [0x23#8]
  | .incH => [0x24#8]
  | .decH => [0x25#8]
  | .ldHN n => [0x26#8, n]
  | .daa => [0x27#8]
  | .jrZE e => [0x28#8, e]
  | .addHLHL => [0x29#8]
  | .ldAAtHLInc => [0x2A#8]
  | .decHL => [0x2B#8]
  | .incL => [0x2C#8]
  | .decL => [0x2D#8]
  | .ldLN n => [0x2E#8, n]
  | .cpl => [0x2F#8]
  | .jrNCE e => [0x30#8, e]
  | .ldSPNn nn => [0x31#8, loByte nn, hiByte nn]
  | .ldAtHLDecA => [0x32#8]
  | .incSP => [0x33#8]
  | .incAtHL => [0x34#8]
  | .decAtHL => [0x35#8]
  | .ldAtHLN n => [0x36#8, n]
  | .scf => [0x37#8]
  | .jrCE e => [0x38#8, e]
  | .addHLSP => [0x39#8]
  | .ldAAtHLDec => [0x3A#8]
  | .decSP => [0x3B#8]
  | .incA => [0x3C#8]
  | .decA => [0x3D#8]
  | .ldAN n => [0x3E#8, n]
  | .ccf => [0x3F#8]
  | .ldBB => [0x40#8]
  | .ldBC => [0x41#8]
  | .ldBD => [0x42#8]
  | .ldBE => [0x43#8]
  | .ldBH => [0x44#8]
  | .ldBL => [0x45#8]
  | .ldBAtHL => [0x46#8]
  | .ldBA => [0x47#8]
  | .ldCB => [0x48#8]
  | .ldCC => [0x49#8]
  | .ldCD => [0x4A#8]
  | .ldCE => [0x4B#8]
  | .ldCH => [0x4C#8]
  | .ldCL => [0x4D#8]
  | .ldCAtHL => [0x4E#8]
  | .ldCA => [0x4F#8]
  | .ldDB => [0x50#8]
  | .ldDC => [0x51#8]
  | .ldDD => [0x52#8]
  | .ldDE => [0x53#8]
  | .ldDH => [0x54#8]
  | .ldDL => [0x55#8]
  | .ldDAtHL => [0x56#8]
  | .ldDA => [0x57#8]
  | .ldEB => [0x58#8]
  | .ldEC => [0x59#8]
  | .ldED => [0x5A#8]
  | .ldEE => [0x5B#8]
  | .ldEH => [0x5C#8]
  | .ldEL => [0x5D#8]
  | .ldEAtHL => [0x5E#8]
  | .ldEA => [0x5F#8]
  | .ldHB => [0x60#8]
  | .ldHC => [0x61#8]
  | .ldHD => [0x62#8]
  | .ldHE => [0x63#8]
  | .ldHH => [0x64#8]
  | .ldHL => [0x65#8]
  | .ldHAtHL => [0x66#8]
  | .ldHA => [0x67#8]
  | .ldLB => [0x68#8]
  | .ldLC => [0x69#8]
  | .ldLD => [0x6A#8]
  | .ldLE => [0x6B#8]
  | .ldLH => [0x6C#8]
  | .ldLL => [0x6D#8]
  | .ldLAtHL => [0x6E#8]
  | .ldLA => [0x6F#8]
  | .ldAtHLB => [0x70#8]
  | .ldAtHLC => [0x71#8]
  | .ldAtHLD => [0x72#8]
  | .ldAtHLE => [0x73#8]
  | .ldAtHLH => [0x74#8]
  | .ldAtHLL => [0x75#8]
  | .halt => [0x76#8]
  | .ldAtHLA => [0x77#8]
  | .ldAB => [0x78#8]
  | .ldAC => [0x79#8]
  | .ldAD => [0x7A#8]
  | .ldAE => [0x7B#8]
  | .ldAH => [0x7C#8]
  | .ldAL => [0x7D#8]
  | .ldAAtHL => [0x7E#8]
  | .ldAA => [0x7F#8]
  | .addAB => [0x80#8]
  | .addAC => [0x81#8]
  | .addAD => [0x82#8]
  | .addAE => [0x83#8]
  | .addAH => [0x84#8]
  | .addAL => [0x85#8]
  | .addAAtHL => [0x86#8]
  | .addAA => [0x87#8]
  | .adcAB => [0x88#8]
  | .adcAC => [0x89#8]
  | .adcAD => [0x8A#8]
  | .adcAE => [0x8B#8]
  | .adcAH => [0x8C#8]
  | .adcAL => [0x8D#8]
  | .adcAAtHL => [0x8E#8]
  | .adcAA => [0x8F#8]
  | .subAB => [0x90#8]
  | .subAC => [0x91#8]
  | .subAD => [0x92#8]
  | .subAE => [0x93#8]
  | .subAH => [0x94#8]
  | .subAL => [0x95#8]
  | .subAAtHL => [0x96#8]
  | .subAA => [0x97#8]
  | .sbcAB => [0x98#8]
  | .sbcAC => [0x99#8]
  | .sbcAD => [0x9A#8]
  | .sbcAE => [0x9B#8]
  | .sbcAH => [0x9C#8]
  | .sbcAL => [0x9D#8]
  | .sbcAAtHL => [0x9E#8]
  | .sbcAA => [0x9F#8]
  | .andAB => [0xA0#8]
  | .andAC => [0xA1#8]
  | .andAD => [0xA2#8]
  | .andAE => [0xA3#8]
  | .andAH => [0xA4#8]
  | .andAL => [0xA5#8]
  | .andAAtHL => [0xA6#8]
  | .andAA => [0xA7#8]
  | .xorAB => [0xA8#8]
  | .xorAC => [0xA9#8]
  | .xorAD => [0xAA#8]
  | .xorAE => [0xAB#8]
  | .xorAH => [0xAC#8]
  | .xorAL => [0xAD#8]
  | .xorAAtHL => [0xAE#8]
  | .xorAA => [0xAF#8]
  | .orAB => [0xB0#8]
  | .orAC => [0xB1#8]
  | .orAD => [0xB2#8]
  | .orAE => [0xB3#8]
  | .orAH => [0xB4#8]
  | .orAL => [0xB5#8]
  | .orAAtHL => [0xB6#8]
  | .orAA => [0xB7#8]
  | .cpAB => [0xB8#8]
  | .cpAC => [0xB9#8]
  | .cpAD => [0xBA#8]
  | .cpAE => [0xBB#8]
  | .cpAH => [0xBC#8]
  | .cpAL => [0xBD#8]
  | .cpAAtHL => [0xBE#8]
  | .cpAA => [0xBF#8]
  | .retNZ => [0xC0#8]
  | .popBC => [0xC1#8]
  | .jpNZNn nn => [0xC2#8, loByte nn, hiByte nn]
  | .jpNn nn => [0xC3#8, loByte nn, hiByte nn]
  | .callNZNn nn => [0xC4#8, loByte nn, hiByte nn]
  | .pushBC => [0xC5#8]
  | .addAN n => [0xC6#8, n]
  | .rst00H => [0xC7#8]
  | .retZ => [0xC8#8]
  | .ret => [0xC9#8]
  | .jpZNn nn => [0xCA#8, loByte nn, hiByte nn]
  | .prefixCB cb => [0xCB#8, cb]
  | .callZNn nn => [0xCC#8, loByte nn, hiByte nn]
  | .callNn nn => [0xCD#8, loByte nn, hiByte nn]
  | .adcAN n => [0xCE#8, n]
  | .rst08H => [0xCF#8]
  | .retNC => [0xD0#8]
  | .popDE => [0xD1#8]
  | .jpNCNn nn => [0xD2#8, loByte nn, hiByte nn]
  | .invalidD3 => [0xD3#8]
  | .callNCNn nn => [0xD4#8, loByte nn, hiByte nn]
  | .pushDE => [0xD5#8]
  | .subAN n => [0xD6#8, n]
  | .rst10H => [0xD7#8]
  | .retC => [0xD8#8]
  | .reti => [0xD9#8]
  | .jpCNn nn => [0xDA#8, loByte nn, hiByte nn]
  | .invalidDB => [0xDB#8]
  | .callCNn nn => [0xDC#8, loByte nn, hiByte nn]
  | .invalidDD => [0xDD#8]
  | .sbcAN n => [0xDE#8, n]
  | .rst18H => [0xDF#8]
  | .ldhAtNA n => [0xE0#8, n]
  | .popHL => [0xE1#8]
  | .ldAtCA => [0xE2#8]
  | .invalidE3 => [0xE3#8]
  | .invalidE4 => [0xE4#8]
  | .pushHL => [0xE5#8]
  | .andAN n => [0xE6#8, n]
  | .rst20H => [0xE7#8]
  | .addSPE e => [0xE8#8, e]
  | .jpHL => [0xE9#8]
  | .ldAtNnA nn => [0xEA#8, loByte nn, hiByte nn]
  | .invalidEB => [0xEB#8]
  | .invalidEC => [0xEC#8]
  | .invalidED => [0xED#8]
  | .xorAN n => [0xEE#8, n]
  | .rst28H => [0xEF#8]
  | .ldhAAtN n => [0xF0#8, n]
  | .popAF => [0xF1#8]
  | .ldAAtC => [0xF2#8]
  | .di => [0xF3#8]
  | .invalidF4 => [0xF4#8]
  | .pushAF => [0xF5#8]
  | .orAN n => [0xF6#8, n]
  | .rst30H => [0xF7#8]
  | .ldHLSPE e => [0xF8#8, e]
  | .ldSPHL => [0xF9#8]
  | .ldAAtNn nn => [0xFA#8, loByte nn, hiByte nn]
  | .ei => [0xFB#8]
  | .invalidFC => [0xFC#8]
  | .invalidFD => [0xFD#8]
  | .cpAN n => [0xFE#8, n]
  | .rst38H => [0xFF#8]
  | .rlcB => [0xCB#8, 0x00#8]
  | .rlcC => [0xCB#8, 0x01#8]
  | .rlcD => [0xCB#8, 0x02#8]
  | .rlcE => [0xCB#8, 0x03#8]
  | .rlcH => [0xCB#8, 0x04#8]
  | .rlcL => [0xCB#8, 0x05#8]
  | .rlcAtHL => [0xCB#8, 0x06#8]
  | .rlcA => [0xCB#8, 0x07#8]
  | .rrcB => [0xCB#8, 0x08#8]
  | .rrcC => [0xCB#8, 0x09#8]
  | .rrcD => [0xCB#8, 0x0A#8]
  | .rrcE => [0xCB#8, 0x0B#8]
  | .rrcH => [0xCB#8, 0x0C#8]
  | .rrcL => [0xCB#8, 0x0D#8]
  | .rrcAtHL => [0xCB#8, 0x0E#8]
  | .rrcA => [0xCB#8, 0x0F#8]
  | .rlB => [0xCB#8, 0x10#8]
  | .rlC => [0xCB#8, 0x11#8]
  | .rlD => [0xCB#8, 0x12#8]
  | .rlE => [0xCB#8, 0x13#8]
  | .rlH => [0xCB#8, 0x14#8]
  | .rlL => [0xCB#8, 0x15#8]
  | .rlAtHL => [0xCB#8, 0x16#8]
  | .rlA => [0xCB#8, 0x17#8]
  | .rrB => [0xCB#8, 0x18#8]
  | .rrC => [0xCB#8, 0x19#8]
  | .rrD => [0xCB#8, 0x1A#8]
  | .rrE => [0xCB#8, 0x1B#8]
  | .rrH => [0xCB#8, 0x1C#8]
  | .rrL => [0xCB#8, 0x1D#8]
  | .rrAtHL => [0xCB#8, 0x1E#8]
  | .rrA => [0xCB#8, 0x1F#8]
  | .slaB => [0xCB#8, 0x20#8]
  | .slaC => [0xCB#8, 0x21#8]
  | .slaD => [0xCB#8, 0x22#8]
  | .slaE => [0xCB#8, 0x23#8]
  | .slaH => [0xCB#8, 0x24#8]
  | .slaL => [0xCB#8, 0x25#8]
  | .slaAtHL => [0xCB#8, 0x26#8]
  | .slaA => [0xCB#8, 0x27#8]
  | .sraB => [0xCB#8, 0x28#8]
  | .sraC => [0xCB#8, 0x29#8]
  | .sraD => [0xCB#8, 0x2A#8]
  | .sraE => [0xCB#8, 0x2B#8]
  | .sraH => [0xCB#8, 0x2C#8]
  | .sraL => [0xCB#8, 0x2D#8]
  | .sraAtHL => [0xCB#8, 0x2E#8]
  | .sraA => [0xCB#8, 0x2F#8]
  | .swapB => [0xCB#8, 0x30#8]
  | .swapC => [0xCB#8, 0x31#8]
  | .swapD => [0xCB#8, 0x32#8]
  | .swapE => [0xCB#8, 0x33#8]
  | .swapH => [0xCB#8, 0x34#8]
  | .swapL => [0xCB#8, 0x35#8]
  | .swapAtHL => [0xCB#8, 0x36#8]
  | .swapA => [0xCB#8, 0x37#8]
  | .srlB => [0xCB#8, 0x38#8]
  | .srlC => [0xCB#8, 0x39#8]
  | .srlD => [0xCB#8, 0x3A#8]
  | .srlE => [0xCB#8, 0x3B#8]
  | .srlH => [0xCB#8, 0x3C#8]
  | .srlL => [0xCB#8, 0x3D#8]
  | .srlAtHL => [0xCB#8, 0x3E#8]
  | .srlA => [0xCB#8, 0x3F#8]
  | .bit0B => [0xCB#8, 0x40#8]
  | .bit0C => [0xCB#8, 0x41#8]
  | .bit0D => [0xCB#8, 0x42#8]
  | .bit0E => [0xCB#8, 0x43#8]
  | .bit0H => [0xCB#8, 0x44#8]
  | .bit0L => [0xCB#8, 0x45#8]
  | .bit0AtHL => [0xCB#8, 0x46#8]
  | .bit0A => [0xCB#8, 0x47#8]
  | .bit1B => [0xCB#8, 0x48#8]
  | .bit1C => [0xCB#8, 0x49#8]
  | .bit1D => [0xCB#8, 0x4A#8]
  | .bit1E => [0xCB#8, 0x4B#8]
  | .bit1H => [0xCB#8, 0x4C#8]
  | .bit1L => [0xCB#8, 0x4D#8]
  | .bit1AtHL => [0xCB#8, 0x4E#8]
  | .bit1A => [0xCB#8, 0x4F#8]
  | .bit2B => [0xCB#8, 0x50#8]
  | .bit2C => [0xCB#8, 0x51#8]
  | .bit2D => [0xCB#8, 0x52#8]
  | .bit2E => [0xCB#8, 0x53#8]
  | .bit2H => [0xCB#8, 0x54#8]
  | .bit2L => [0xCB#8, 0x55#8]
  | .bit2AtHL => [0xCB#8, 0x56#8]
  | .bit2A => [0xCB#8, 0x57#8]
  | .bit3B => [0xCB#8, 0x58#8]
  | .bit3C => [0xCB#8, 0x59#8]
  | .bit3D => [0xCB#8, 0x5A#8]
  | .bit3E => [0xCB#8, 0x5B#8]
  | .bit3H => [0xCB#8, 0x5C#8]
  | .bit3L => [0xCB#8, 0x5D#8]
  | .bit3AtHL => [0xCB#8, 0x5E#8]
  | .bit3A => [0xCB#8, 0x5F#8]
  | .bit4B => [0xCB#8, 0x60#8]
  | .bit4C => [0xCB#8, 0x61#8]
  | .bit4D => [0xCB#8, 0x62#8]
  | .bit4E => [0xCB#8, 0x63#8]
  | .bit4H => [0xCB#8, 0x64#8]
  | .bit4L => [0xCB#8, 0x65#8]
  | .bit4AtHL => [0xCB#8, 0x66#8]
  | .bit4A => [0xCB#8, 0x67#8]
  | .bit5B => [0xCB#8, 0x68#8]
  | .bit5C => [0xCB#8, 0x69#8]
  | .bit5D => [0xCB#8, 0x6A#8]
  | .bit5E => [0xCB#8, 0x6B#8]
  | .bit5H => [0xCB#8, 0x6C#8]
  | .bit5L => [0xCB#8, 0x6D#8]
  | .bit5AtHL => [0xCB#8, 0x6E#8]
  | .bit5A => [0xCB#8, 0x6F#8]
  | .bit6B => [0xCB#8, 0x70#8]
  | .bit6C => [0xCB#8, 0x71#8]
  | .bit6D => [0xCB#8, 0x72#8]
  | .bit6E => [0xCB#8, 0x73#8]
  | .bit6H => [0xCB#8, 0x74#8]
  | .bit6L => [0xCB#8, 0x75#8]
  | .bit6AtHL => [0xCB#8, 0x76#8]
  | .bit6A => [0xCB#8, 0x77#8]
  | .bit7B => [0xCB#8, 0x78#8]
  | .bit7C => [0xCB#8, 0x79#8]
  | .bit7D => [0xCB#8, 0x7A#8]
  | .bit7E => [0xCB#8, 0x7B#8]
  | .bit7H => [0xCB#8, 0x7C#8]
  | .bit7L => [0xCB#8, 0x7D#8]
  | .bit7AtHL => [0xCB#8, 0x7E#8]
  | .bit7A => [0xCB#8, 0x7F#8]
  | .res0B => [0xCB#8, 0x80#8]
  | .res0C => [0xCB#8, 0x81#8]
  | .res0D => [0xCB#8, 0x82#8]
  | .res0E => [0xCB#8, 0x83#8]
  | .res0H => [0xCB#8, 0x84#8]
  | .res0L => [0xCB#8, 0x85#8]
  | .res0AtHL => [0xCB#8, 0x86#8]
  | .res0A => [0xCB#8, 0x87#8]
  | .res1B => [0xCB#8, 0x88#8]
  | .res1C => [0xCB#8, 0x89#8]
  | .res1D => [0xCB#8, 0x8A#8]
  | .res1E => [0xCB#8, 0x8B#8]
  | .res1H => [0xCB#8, 0x8C#8]
  | .res1L => [0xCB#8, 0x8D#8]
  | .res1AtHL => [0xCB#8, 0x8E#8]
  | .res1A => [0xCB#8, 0x8F#8]
  | .res2B => [0xCB#8, 0x90#8]
  | .res2C => [0xCB#8, 0x91#8]
  | .res2D => [0xCB#8, 0x92#8]
  | .res2E => [0xCB#8, 0x93#8]
  | .res2H => [0xCB#8, 0x94#8]
  | .res2L => [0xCB#8, 0x95#8]
  | .res2AtHL => [0xCB#8, 0x96#8]
  | .res2A => [0xCB#8, 0x97#8]
  | .res3B => [0xCB#8, 0x98#8]
  | .res3C => [0xCB#8, 0x99#8]
  | .res3D => [0xCB#8, 0x9A#8]
  | .res3E => [0xCB#8, 0x9B#8]
  | .res3H => [0xCB#8, 0x9C#8]
  | .res3L => [0xCB#8, 0x9D#8]
  | .res3AtHL => [0xCB#8, 0x9E#8]
  | .res3A => [0xCB#8, 0x9F#8]
  | .res4B => [0xCB#8, 0xA0#8]
  | .res4C => [0xCB#8, 0xA1#8]
  | .res4D => [0xCB#8, 0xA2#8]
  | .res4E => [0xCB#8, 0xA3#8]
  | .res4H => [0xCB#8, 0xA4#8]
  | .res4L => [0xCB#8, 0xA5#8]
  | .res4AtHL => [0xCB#8, 0xA6#8]
  | .res4A => [0xCB#8, 0xA7#8]
  | .res5B => [0xCB#8, 0xA8#8]
  | .res5C => [0xCB#8, 0xA9#8]
  | .res5D => [0xCB#8, 0xAA#8]
  | .res5E => [0xCB#8, 0xAB#8]
  | .res5H => [0xCB#8, 0xAC#8]
  | .res5L => [0xCB#8, 0xAD#8]
  | .res5AtHL => [0xCB#8, 0xAE#8]
  | .res5A => [0xCB#8, 0xAF#8]
  | .res6B => [0xCB#8, 0xB0#8]
  | .res6C => [0xCB#8, 0xB1#8]
  | .res6D => [0xCB#8, 0xB2#8]
  | .res6E => [0xCB#8, 0xB3#8]
  | .res6H => [0xCB#8, 0xB4#8]
  | .res6L => [0xCB#8, 0xB5#8]
  | .res6AtHL => [0xCB#8, 0xB6#8]
  | .res6A => [0xCB#8, 0xB7#8]
  | .res7B => [0xCB#8, 0xB8#8]
  | .res7C => [0xCB#8, 0xB9#8]
  | .res7D => [0xCB#8, 0xBA#8]
  | .res7E => [0xCB#8, 0xBB#8]
  | .res7H => [0xCB#8, 0xBC#8]
  | .res7L => [0xCB#8, 0xBD#8]
  | .res7AtHL => [0xCB#8, 0xBE#8]
  | .res7A => [0xCB#8, 0xBF#8]
  | .set0B => [0xCB#8, 0xC0#8]
  | .set0C => [0xCB#8, 0xC1#8]
  | .set0D => [0xCB#8, 0xC2#8]
  | .set0E => [0xCB#8, 0xC3#8]
  | .set0H => [0xCB#8, 0xC4#8]
  | .set0L => [0xCB#8, 0xC5#8]
  | .set0AtHL => [0xCB#8, 0xC6#8]
  | .set0A => [0xCB#8, 0xC7#8]
  | .set1B => [0xCB#8, 0xC8#8]
  | .set1C => [0xCB#8, 0xC9#8]
  | .set1D => [0xCB#8, 0xCA#8]
  | .set1E => [0xCB#8, 0xCB#8]
  | .set1H => [0xCB#8, 0xCC#8]
  | .set1L => [0xCB#8, 0xCD#8]
  | .set1AtHL => [0xCB#8, 0xCE#8]
  | .set1A => [0xCB#8, 0xCF#8]
  | .set2B => [0xCB#8, 0xD0#8]
  | .set2C => [0xCB#8, 0xD1#8]
  | .set2D => [0xCB#8, 0xD2#8]
  | .set2E => [0xCB#8, 0xD3#8]
  | .set2H => [0xCB#8, 0xD4#8]
  | .set2L => [0xCB#8, 0xD5#8]
  | .set2AtHL => [0xCB#8, 0xD6#8]
  | .set2A => [0xCB#8, 0xD7#8]
  | .set3B => [0xCB#8, 0xD8#8]
  | .set3C => [0xCB#8, 0xD9#8]
  | .set3D => [0xCB#8, 0xDA#8]
  | .set3E => [0xCB#8, 0xDB#8]
  | .set3H => [0xCB#8, 0xDC#8]
  | .set3L => [0xCB#8, 0xDD#8]
  | .set3AtHL => [0xCB#8, 0xDE#8]
  | .set3A => [0xCB#8, 0xDF#8]
  | .set4B => [0xCB#8, 0xE0#8]
  | .set4C => [0xCB#8, 0xE1#8]
  | .set4D => [0xCB#8, 0xE2#8]
  | .set4E => [0xCB#8, 0xE3#8]
  | .set4H => [0xCB#8, 0xE4#8]
  | .set4L => [0xCB#8, 0xE5#8]
  | .set4AtHL => [0xCB#8, 0xE6#8]
  | .set4A => [0xCB#8, 0xE7#8]
  | .set5B => [0xCB#8, 0xE8#8]
  | .set5C => [0xCB#8, 0xE9#8]
  | .set5D => [0xCB#8, 0xEA#8]
  | .set5E => [0xCB#8, 0xEB#8]
  | .set5H => [0xCB#8, 0xEC#8]
  | .set5L => [0xCB#8, 0xED#8]
  | .set5AtHL => [0xCB#8, 0xEE#8]
  | .set5A => [0xCB#8, 0xEF#8]
  | .set6B => [0xCB#8, 0xF0#8]
  | .set6C => [0xCB#8, 0xF1#8]
  | .set6D => [0xCB#8, 0xF2#8]
  | .set6E => [0xCB#8, 0xF3#8]
  | .set6H => [0xCB#8, 0xF4#8]
  | .set6L => [0xCB#8, 0xF5#8]
  | .set6AtHL => [0xCB#8, 0xF6#8]
  | .set6A => [0xCB#8, 0xF7#8]
  | .set7B => [0xCB#8, 0xF8#8]
  | .set7C => [0xCB#8, 0xF9#8]
  | .set7D => [0xCB#8, 0xFA#8]
  | .set7E => [0xCB#8, 0xFB#8]
  | .set7H => [0xCB#8, 0xFC#8]
  | .set7L => [0xCB#8, 0xFD#8]
  | .set7AtHL => [0xCB#8, 0xFE#8]
  | .set7A => [0xCB#8, 0xFF#8]

end Sys2Proof
end

