-- ==== Sys2Proof/Machine/BitOps.lean ====
section
/-! DEFINITION. The CB-prefixed instructions (43_rotate_shift_bit.md, R224 to R235): the shared forms, then one meaning for
each instruction. -/

namespace Sys2Proof.Machine

/-- The rotate/shift group: `Get`, compute, `Put`, flags (R224 to R232). -/
def rotateTarget (op : RotOp) (t : Target) (s : State) : Result :=
  let r := getTarget t s
  let q := rotResult op r.1 s.flags.c
  complete (modifyCost t) ((putTarget t q.1 r.2).setFlags (rotFlags q.1 q.2))

/-- `BIT b,r`: nothing is written back (R233). -/
def bitTarget (b : Fin 8) (t : Target) (s : State) : Result :=
  let r := getTarget t s
  complete (testCost t) (r.2.setFlags (bitFlags (r.1.getLsbD b) s.flags))

/-- `RES b,r`: the write is performed whatever the bit was (R234). -/
def resTarget (b : Fin 8) (t : Target) (s : State) : Result :=
  let r := getTarget t s
  complete (modifyCost t) (putTarget t (r.1 &&& ~~~(1#8 <<< b.val)) r.2)

/-- `SET b,r` (R235). -/
def setTarget (b : Fin 8) (t : Target) (s : State) : Result :=
  let r := getTarget t s
  complete (modifyCost t) (putTarget t (r.1 ||| (1#8 <<< b.val)) r.2)

/-- What the prefix does with its second byte: the family, the operation or bit index, and the target of R110. -/
def operateCB (cb : Byte) (s : State) : Result :=
  let y := cb.extractLsb' 3 3
  let t := targetOfField (cb.extractLsb' 0 3)
  match (cb.extractLsb' 6 2).toNat with
  | 0 => rotateTarget (rotOfField y) t s
  | 1 => bitTarget (bitOfField y) t s
  | 2 => resTarget (bitOfField y) t s
  | _ => setTarget (bitOfField y) t s

/-- `PREFIX CB`, 0xCB (R110). -/
def execPrefixCB (cb : Byte) (s : State) : Result := operateCB cb s

/-- `RLC B`, 0xCB 0x00 (R225). -/
def execRlcB (s : State) : Result := rotateTarget .rlc (.reg .b) s

/-- `RLC C`, 0xCB 0x01 (R225). -/
def execRlcC (s : State) : Result := rotateTarget .rlc (.reg .c) s

/-- `RLC D`, 0xCB 0x02 (R225). -/
def execRlcD (s : State) : Result := rotateTarget .rlc (.reg .d) s

/-- `RLC E`, 0xCB 0x03 (R225). -/
def execRlcE (s : State) : Result := rotateTarget .rlc (.reg .e) s

/-- `RLC H`, 0xCB 0x04 (R225). -/
def execRlcH (s : State) : Result := rotateTarget .rlc (.reg .h) s

/-- `RLC L`, 0xCB 0x05 (R225). -/
def execRlcL (s : State) : Result := rotateTarget .rlc (.reg .l) s

/-- `RLC (HL)`, 0xCB 0x06 (R225). -/
def execRlcAtHL (s : State) : Result := rotateTarget .rlc .atHL s

/-- `RLC A`, 0xCB 0x07 (R225). -/
def execRlcA (s : State) : Result := rotateTarget .rlc (.reg .a) s

/-- `RRC B`, 0xCB 0x08 (R226). -/
def execRrcB (s : State) : Result := rotateTarget .rrc (.reg .b) s

/-- `RRC C`, 0xCB 0x09 (R226). -/
def execRrcC (s : State) : Result := rotateTarget .rrc (.reg .c) s

/-- `RRC D`, 0xCB 0x0A (R226). -/
def execRrcD (s : State) : Result := rotateTarget .rrc (.reg .d) s

/-- `RRC E`, 0xCB 0x0B (R226). -/
def execRrcE (s : State) : Result := rotateTarget .rrc (.reg .e) s

/-- `RRC H`, 0xCB 0x0C (R226). -/
def execRrcH (s : State) : Result := rotateTarget .rrc (.reg .h) s

/-- `RRC L`, 0xCB 0x0D (R226). -/
def execRrcL (s : State) : Result := rotateTarget .rrc (.reg .l) s

/-- `RRC (HL)`, 0xCB 0x0E (R226). -/
def execRrcAtHL (s : State) : Result := rotateTarget .rrc .atHL s

/-- `RRC A`, 0xCB 0x0F (R226). -/
def execRrcA (s : State) : Result := rotateTarget .rrc (.reg .a) s

/-- `RL B`, 0xCB 0x10 (R227). -/
def execRlB (s : State) : Result := rotateTarget .rl (.reg .b) s

/-- `RL C`, 0xCB 0x11 (R227). -/
def execRlC (s : State) : Result := rotateTarget .rl (.reg .c) s

/-- `RL D`, 0xCB 0x12 (R227). -/
def execRlD (s : State) : Result := rotateTarget .rl (.reg .d) s

/-- `RL E`, 0xCB 0x13 (R227). -/
def execRlE (s : State) : Result := rotateTarget .rl (.reg .e) s

/-- `RL H`, 0xCB 0x14 (R227). -/
def execRlH (s : State) : Result := rotateTarget .rl (.reg .h) s

/-- `RL L`, 0xCB 0x15 (R227). -/
def execRlL (s : State) : Result := rotateTarget .rl (.reg .l) s

/-- `RL (HL)`, 0xCB 0x16 (R227). -/
def execRlAtHL (s : State) : Result := rotateTarget .rl .atHL s

/-- `RL A`, 0xCB 0x17 (R227). -/
def execRlA (s : State) : Result := rotateTarget .rl (.reg .a) s

/-- `RR B`, 0xCB 0x18 (R228). -/
def execRrB (s : State) : Result := rotateTarget .rr (.reg .b) s

/-- `RR C`, 0xCB 0x19 (R228). -/
def execRrC (s : State) : Result := rotateTarget .rr (.reg .c) s

/-- `RR D`, 0xCB 0x1A (R228). -/
def execRrD (s : State) : Result := rotateTarget .rr (.reg .d) s

/-- `RR E`, 0xCB 0x1B (R228). -/
def execRrE (s : State) : Result := rotateTarget .rr (.reg .e) s

/-- `RR H`, 0xCB 0x1C (R228). -/
def execRrH (s : State) : Result := rotateTarget .rr (.reg .h) s

/-- `RR L`, 0xCB 0x1D (R228). -/
def execRrL (s : State) : Result := rotateTarget .rr (.reg .l) s

/-- `RR (HL)`, 0xCB 0x1E (R228). -/
def execRrAtHL (s : State) : Result := rotateTarget .rr .atHL s

/-- `RR A`, 0xCB 0x1F (R228). -/
def execRrA (s : State) : Result := rotateTarget .rr (.reg .a) s

/-- `SLA B`, 0xCB 0x20 (R229). -/
def execSlaB (s : State) : Result := rotateTarget .sla (.reg .b) s

/-- `SLA C`, 0xCB 0x21 (R229). -/
def execSlaC (s : State) : Result := rotateTarget .sla (.reg .c) s

/-- `SLA D`, 0xCB 0x22 (R229). -/
def execSlaD (s : State) : Result := rotateTarget .sla (.reg .d) s

/-- `SLA E`, 0xCB 0x23 (R229). -/
def execSlaE (s : State) : Result := rotateTarget .sla (.reg .e) s

/-- `SLA H`, 0xCB 0x24 (R229). -/
def execSlaH (s : State) : Result := rotateTarget .sla (.reg .h) s

/-- `SLA L`, 0xCB 0x25 (R229). -/
def execSlaL (s : State) : Result := rotateTarget .sla (.reg .l) s

/-- `SLA (HL)`, 0xCB 0x26 (R229). -/
def execSlaAtHL (s : State) : Result := rotateTarget .sla .atHL s

/-- `SLA A`, 0xCB 0x27 (R229). -/
def execSlaA (s : State) : Result := rotateTarget .sla (.reg .a) s

/-- `SRA B`, 0xCB 0x28 (R230). -/
def execSraB (s : State) : Result := rotateTarget .sra (.reg .b) s

/-- `SRA C`, 0xCB 0x29 (R230). -/
def execSraC (s : State) : Result := rotateTarget .sra (.reg .c) s

/-- `SRA D`, 0xCB 0x2A (R230). -/
def execSraD (s : State) : Result := rotateTarget .sra (.reg .d) s

/-- `SRA E`, 0xCB 0x2B (R230). -/
def execSraE (s : State) : Result := rotateTarget .sra (.reg .e) s

/-- `SRA H`, 0xCB 0x2C (R230). -/
def execSraH (s : State) : Result := rotateTarget .sra (.reg .h) s

/-- `SRA L`, 0xCB 0x2D (R230). -/
def execSraL (s : State) : Result := rotateTarget .sra (.reg .l) s

/-- `SRA (HL)`, 0xCB 0x2E (R230). -/
def execSraAtHL (s : State) : Result := rotateTarget .sra .atHL s

/-- `SRA A`, 0xCB 0x2F (R230). -/
def execSraA (s : State) : Result := rotateTarget .sra (.reg .a) s

/-- `SWAP B`, 0xCB 0x30 (R231). -/
def execSwapB (s : State) : Result := rotateTarget .swap (.reg .b) s

/-- `SWAP C`, 0xCB 0x31 (R231). -/
def execSwapC (s : State) : Result := rotateTarget .swap (.reg .c) s

/-- `SWAP D`, 0xCB 0x32 (R231). -/
def execSwapD (s : State) : Result := rotateTarget .swap (.reg .d) s

/-- `SWAP E`, 0xCB 0x33 (R231). -/
def execSwapE (s : State) : Result := rotateTarget .swap (.reg .e) s

/-- `SWAP H`, 0xCB 0x34 (R231). -/
def execSwapH (s : State) : Result := rotateTarget .swap (.reg .h) s

/-- `SWAP L`, 0xCB 0x35 (R231). -/
def execSwapL (s : State) : Result := rotateTarget .swap (.reg .l) s

/-- `SWAP (HL)`, 0xCB 0x36 (R231). -/
def execSwapAtHL (s : State) : Result := rotateTarget .swap .atHL s

/-- `SWAP A`, 0xCB 0x37 (R231). -/
def execSwapA (s : State) : Result := rotateTarget .swap (.reg .a) s

/-- `SRL B`, 0xCB 0x38 (R232). -/
def execSrlB (s : State) : Result := rotateTarget .srl (.reg .b) s

/-- `SRL C`, 0xCB 0x39 (R232). -/
def execSrlC (s : State) : Result := rotateTarget .srl (.reg .c) s

/-- `SRL D`, 0xCB 0x3A (R232). -/
def execSrlD (s : State) : Result := rotateTarget .srl (.reg .d) s

/-- `SRL E`, 0xCB 0x3B (R232). -/
def execSrlE (s : State) : Result := rotateTarget .srl (.reg .e) s

/-- `SRL H`, 0xCB 0x3C (R232). -/
def execSrlH (s : State) : Result := rotateTarget .srl (.reg .h) s

/-- `SRL L`, 0xCB 0x3D (R232). -/
def execSrlL (s : State) : Result := rotateTarget .srl (.reg .l) s

/-- `SRL (HL)`, 0xCB 0x3E (R232). -/
def execSrlAtHL (s : State) : Result := rotateTarget .srl .atHL s

/-- `SRL A`, 0xCB 0x3F (R232). -/
def execSrlA (s : State) : Result := rotateTarget .srl (.reg .a) s

/-- `BIT 0,B`, 0xCB 0x40 (R233). -/
def execBit0B (s : State) : Result := bitTarget 0 (.reg .b) s

/-- `BIT 0,C`, 0xCB 0x41 (R233). -/
def execBit0C (s : State) : Result := bitTarget 0 (.reg .c) s

/-- `BIT 0,D`, 0xCB 0x42 (R233). -/
def execBit0D (s : State) : Result := bitTarget 0 (.reg .d) s

/-- `BIT 0,E`, 0xCB 0x43 (R233). -/
def execBit0E (s : State) : Result := bitTarget 0 (.reg .e) s

/-- `BIT 0,H`, 0xCB 0x44 (R233). -/
def execBit0H (s : State) : Result := bitTarget 0 (.reg .h) s

/-- `BIT 0,L`, 0xCB 0x45 (R233). -/
def execBit0L (s : State) : Result := bitTarget 0 (.reg .l) s

/-- `BIT 0,(HL)`, 0xCB 0x46 (R233). -/
def execBit0AtHL (s : State) : Result := bitTarget 0 .atHL s

/-- `BIT 0,A`, 0xCB 0x47 (R233). -/
def execBit0A (s : State) : Result := bitTarget 0 (.reg .a) s

/-- `BIT 1,B`, 0xCB 0x48 (R233). -/
def execBit1B (s : State) : Result := bitTarget 1 (.reg .b) s

/-- `BIT 1,C`, 0xCB 0x49 (R233). -/
def execBit1C (s : State) : Result := bitTarget 1 (.reg .c) s

/-- `BIT 1,D`, 0xCB 0x4A (R233). -/
def execBit1D (s : State) : Result := bitTarget 1 (.reg .d) s

/-- `BIT 1,E`, 0xCB 0x4B (R233). -/
def execBit1E (s : State) : Result := bitTarget 1 (.reg .e) s

/-- `BIT 1,H`, 0xCB 0x4C (R233). -/
def execBit1H (s : State) : Result := bitTarget 1 (.reg .h) s

/-- `BIT 1,L`, 0xCB 0x4D (R233). -/
def execBit1L (s : State) : Result := bitTarget 1 (.reg .l) s

/-- `BIT 1,(HL)`, 0xCB 0x4E (R233). -/
def execBit1AtHL (s : State) : Result := bitTarget 1 .atHL s

/-- `BIT 1,A`, 0xCB 0x4F (R233). -/
def execBit1A (s : State) : Result := bitTarget 1 (.reg .a) s

/-- `BIT 2,B`, 0xCB 0x50 (R233). -/
def execBit2B (s : State) : Result := bitTarget 2 (.reg .b) s

/-- `BIT 2,C`, 0xCB 0x51 (R233). -/
def execBit2C (s : State) : Result := bitTarget 2 (.reg .c) s

/-- `BIT 2,D`, 0xCB 0x52 (R233). -/
def execBit2D (s : State) : Result := bitTarget 2 (.reg .d) s

/-- `BIT 2,E`, 0xCB 0x53 (R233). -/
def execBit2E (s : State) : Result := bitTarget 2 (.reg .e) s

/-- `BIT 2,H`, 0xCB 0x54 (R233). -/
def execBit2H (s : State) : Result := bitTarget 2 (.reg .h) s

/-- `BIT 2,L`, 0xCB 0x55 (R233). -/
def execBit2L (s : State) : Result := bitTarget 2 (.reg .l) s

/-- `BIT 2,(HL)`, 0xCB 0x56 (R233). -/
def execBit2AtHL (s : State) : Result := bitTarget 2 .atHL s

/-- `BIT 2,A`, 0xCB 0x57 (R233). -/
def execBit2A (s : State) : Result := bitTarget 2 (.reg .a) s

/-- `BIT 3,B`, 0xCB 0x58 (R233). -/
def execBit3B (s : State) : Result := bitTarget 3 (.reg .b) s

/-- `BIT 3,C`, 0xCB 0x59 (R233). -/
def execBit3C (s : State) : Result := bitTarget 3 (.reg .c) s

/-- `BIT 3,D`, 0xCB 0x5A (R233). -/
def execBit3D (s : State) : Result := bitTarget 3 (.reg .d) s

/-- `BIT 3,E`, 0xCB 0x5B (R233). -/
def execBit3E (s : State) : Result := bitTarget 3 (.reg .e) s

/-- `BIT 3,H`, 0xCB 0x5C (R233). -/
def execBit3H (s : State) : Result := bitTarget 3 (.reg .h) s

/-- `BIT 3,L`, 0xCB 0x5D (R233). -/
def execBit3L (s : State) : Result := bitTarget 3 (.reg .l) s

/-- `BIT 3,(HL)`, 0xCB 0x5E (R233). -/
def execBit3AtHL (s : State) : Result := bitTarget 3 .atHL s

/-- `BIT 3,A`, 0xCB 0x5F (R233). -/
def execBit3A (s : State) : Result := bitTarget 3 (.reg .a) s

/-- `BIT 4,B`, 0xCB 0x60 (R233). -/
def execBit4B (s : State) : Result := bitTarget 4 (.reg .b) s

/-- `BIT 4,C`, 0xCB 0x61 (R233). -/
def execBit4C (s : State) : Result := bitTarget 4 (.reg .c) s

/-- `BIT 4,D`, 0xCB 0x62 (R233). -/
def execBit4D (s : State) : Result := bitTarget 4 (.reg .d) s

/-- `BIT 4,E`, 0xCB 0x63 (R233). -/
def execBit4E (s : State) : Result := bitTarget 4 (.reg .e) s

/-- `BIT 4,H`, 0xCB 0x64 (R233). -/
def execBit4H (s : State) : Result := bitTarget 4 (.reg .h) s

/-- `BIT 4,L`, 0xCB 0x65 (R233). -/
def execBit4L (s : State) : Result := bitTarget 4 (.reg .l) s

/-- `BIT 4,(HL)`, 0xCB 0x66 (R233). -/
def execBit4AtHL (s : State) : Result := bitTarget 4 .atHL s

/-- `BIT 4,A`, 0xCB 0x67 (R233). -/
def execBit4A (s : State) : Result := bitTarget 4 (.reg .a) s

/-- `BIT 5,B`, 0xCB 0x68 (R233). -/
def execBit5B (s : State) : Result := bitTarget 5 (.reg .b) s

/-- `BIT 5,C`, 0xCB 0x69 (R233). -/
def execBit5C (s : State) : Result := bitTarget 5 (.reg .c) s

/-- `BIT 5,D`, 0xCB 0x6A (R233). -/
def execBit5D (s : State) : Result := bitTarget 5 (.reg .d) s

/-- `BIT 5,E`, 0xCB 0x6B (R233). -/
def execBit5E (s : State) : Result := bitTarget 5 (.reg .e) s

/-- `BIT 5,H`, 0xCB 0x6C (R233). -/
def execBit5H (s : State) : Result := bitTarget 5 (.reg .h) s

/-- `BIT 5,L`, 0xCB 0x6D (R233). -/
def execBit5L (s : State) : Result := bitTarget 5 (.reg .l) s

/-- `BIT 5,(HL)`, 0xCB 0x6E (R233). -/
def execBit5AtHL (s : State) : Result := bitTarget 5 .atHL s

/-- `BIT 5,A`, 0xCB 0x6F (R233). -/
def execBit5A (s : State) : Result := bitTarget 5 (.reg .a) s

/-- `BIT 6,B`, 0xCB 0x70 (R233). -/
def execBit6B (s : State) : Result := bitTarget 6 (.reg .b) s

/-- `BIT 6,C`, 0xCB 0x71 (R233). -/
def execBit6C (s : State) : Result := bitTarget 6 (.reg .c) s

/-- `BIT 6,D`, 0xCB 0x72 (R233). -/
def execBit6D (s : State) : Result := bitTarget 6 (.reg .d) s

/-- `BIT 6,E`, 0xCB 0x73 (R233). -/
def execBit6E (s : State) : Result := bitTarget 6 (.reg .e) s

/-- `BIT 6,H`, 0xCB 0x74 (R233). -/
def execBit6H (s : State) : Result := bitTarget 6 (.reg .h) s

/-- `BIT 6,L`, 0xCB 0x75 (R233). -/
def execBit6L (s : State) : Result := bitTarget 6 (.reg .l) s

/-- `BIT 6,(HL)`, 0xCB 0x76 (R233). -/
def execBit6AtHL (s : State) : Result := bitTarget 6 .atHL s

/-- `BIT 6,A`, 0xCB 0x77 (R233). -/
def execBit6A (s : State) : Result := bitTarget 6 (.reg .a) s

/-- `BIT 7,B`, 0xCB 0x78 (R233). -/
def execBit7B (s : State) : Result := bitTarget 7 (.reg .b) s

/-- `BIT 7,C`, 0xCB 0x79 (R233). -/
def execBit7C (s : State) : Result := bitTarget 7 (.reg .c) s

/-- `BIT 7,D`, 0xCB 0x7A (R233). -/
def execBit7D (s : State) : Result := bitTarget 7 (.reg .d) s

/-- `BIT 7,E`, 0xCB 0x7B (R233). -/
def execBit7E (s : State) : Result := bitTarget 7 (.reg .e) s

/-- `BIT 7,H`, 0xCB 0x7C (R233). -/
def execBit7H (s : State) : Result := bitTarget 7 (.reg .h) s

/-- `BIT 7,L`, 0xCB 0x7D (R233). -/
def execBit7L (s : State) : Result := bitTarget 7 (.reg .l) s

/-- `BIT 7,(HL)`, 0xCB 0x7E (R233). -/
def execBit7AtHL (s : State) : Result := bitTarget 7 .atHL s

/-- `BIT 7,A`, 0xCB 0x7F (R233). -/
def execBit7A (s : State) : Result := bitTarget 7 (.reg .a) s

/-- `RES 0,B`, 0xCB 0x80 (R234). -/
def execRes0B (s : State) : Result := resTarget 0 (.reg .b) s

/-- `RES 0,C`, 0xCB 0x81 (R234). -/
def execRes0C (s : State) : Result := resTarget 0 (.reg .c) s

/-- `RES 0,D`, 0xCB 0x82 (R234). -/
def execRes0D (s : State) : Result := resTarget 0 (.reg .d) s

/-- `RES 0,E`, 0xCB 0x83 (R234). -/
def execRes0E (s : State) : Result := resTarget 0 (.reg .e) s

/-- `RES 0,H`, 0xCB 0x84 (R234). -/
def execRes0H (s : State) : Result := resTarget 0 (.reg .h) s

/-- `RES 0,L`, 0xCB 0x85 (R234). -/
def execRes0L (s : State) : Result := resTarget 0 (.reg .l) s

/-- `RES 0,(HL)`, 0xCB 0x86 (R234). -/
def execRes0AtHL (s : State) : Result := resTarget 0 .atHL s

/-- `RES 0,A`, 0xCB 0x87 (R234). -/
def execRes0A (s : State) : Result := resTarget 0 (.reg .a) s

/-- `RES 1,B`, 0xCB 0x88 (R234). -/
def execRes1B (s : State) : Result := resTarget 1 (.reg .b) s

/-- `RES 1,C`, 0xCB 0x89 (R234). -/
def execRes1C (s : State) : Result := resTarget 1 (.reg .c) s

/-- `RES 1,D`, 0xCB 0x8A (R234). -/
def execRes1D (s : State) : Result := resTarget 1 (.reg .d) s

/-- `RES 1,E`, 0xCB 0x8B (R234). -/
def execRes1E (s : State) : Result := resTarget 1 (.reg .e) s

/-- `RES 1,H`, 0xCB 0x8C (R234). -/
def execRes1H (s : State) : Result := resTarget 1 (.reg .h) s

/-- `RES 1,L`, 0xCB 0x8D (R234). -/
def execRes1L (s : State) : Result := resTarget 1 (.reg .l) s

/-- `RES 1,(HL)`, 0xCB 0x8E (R234). -/
def execRes1AtHL (s : State) : Result := resTarget 1 .atHL s

/-- `RES 1,A`, 0xCB 0x8F (R234). -/
def execRes1A (s : State) : Result := resTarget 1 (.reg .a) s

/-- `RES 2,B`, 0xCB 0x90 (R234). -/
def execRes2B (s : State) : Result := resTarget 2 (.reg .b) s

/-- `RES 2,C`, 0xCB 0x91 (R234). -/
def execRes2C (s : State) : Result := resTarget 2 (.reg .c) s

/-- `RES 2,D`, 0xCB 0x92 (R234). -/
def execRes2D (s : State) : Result := resTarget 2 (.reg .d) s

/-- `RES 2,E`, 0xCB 0x93 (R234). -/
def execRes2E (s : State) : Result := resTarget 2 (.reg .e) s

/-- `RES 2,H`, 0xCB 0x94 (R234). -/
def execRes2H (s : State) : Result := resTarget 2 (.reg .h) s

/-- `RES 2,L`, 0xCB 0x95 (R234). -/
def execRes2L (s : State) : Result := resTarget 2 (.reg .l) s

/-- `RES 2,(HL)`, 0xCB 0x96 (R234). -/
def execRes2AtHL (s : State) : Result := resTarget 2 .atHL s

/-- `RES 2,A`, 0xCB 0x97 (R234). -/
def execRes2A (s : State) : Result := resTarget 2 (.reg .a) s

/-- `RES 3,B`, 0xCB 0x98 (R234). -/
def execRes3B (s : State) : Result := resTarget 3 (.reg .b) s

/-- `RES 3,C`, 0xCB 0x99 (R234). -/
def execRes3C (s : State) : Result := resTarget 3 (.reg .c) s

/-- `RES 3,D`, 0xCB 0x9A (R234). -/
def execRes3D (s : State) : Result := resTarget 3 (.reg .d) s

/-- `RES 3,E`, 0xCB 0x9B (R234). -/
def execRes3E (s : State) : Result := resTarget 3 (.reg .e) s

/-- `RES 3,H`, 0xCB 0x9C (R234). -/
def execRes3H (s : State) : Result := resTarget 3 (.reg .h) s

/-- `RES 3,L`, 0xCB 0x9D (R234). -/
def execRes3L (s : State) : Result := resTarget 3 (.reg .l) s

/-- `RES 3,(HL)`, 0xCB 0x9E (R234). -/
def execRes3AtHL (s : State) : Result := resTarget 3 .atHL s

/-- `RES 3,A`, 0xCB 0x9F (R234). -/
def execRes3A (s : State) : Result := resTarget 3 (.reg .a) s

/-- `RES 4,B`, 0xCB 0xA0 (R234). -/
def execRes4B (s : State) : Result := resTarget 4 (.reg .b) s

/-- `RES 4,C`, 0xCB 0xA1 (R234). -/
def execRes4C (s : State) : Result := resTarget 4 (.reg .c) s

/-- `RES 4,D`, 0xCB 0xA2 (R234). -/
def execRes4D (s : State) : Result := resTarget 4 (.reg .d) s

/-- `RES 4,E`, 0xCB 0xA3 (R234). -/
def execRes4E (s : State) : Result := resTarget 4 (.reg .e) s

/-- `RES 4,H`, 0xCB 0xA4 (R234). -/
def execRes4H (s : State) : Result := resTarget 4 (.reg .h) s

/-- `RES 4,L`, 0xCB 0xA5 (R234). -/
def execRes4L (s : State) : Result := resTarget 4 (.reg .l) s

/-- `RES 4,(HL)`, 0xCB 0xA6 (R234). -/
def execRes4AtHL (s : State) : Result := resTarget 4 .atHL s

/-- `RES 4,A`, 0xCB 0xA7 (R234). -/
def execRes4A (s : State) : Result := resTarget 4 (.reg .a) s

/-- `RES 5,B`, 0xCB 0xA8 (R234). -/
def execRes5B (s : State) : Result := resTarget 5 (.reg .b) s

/-- `RES 5,C`, 0xCB 0xA9 (R234). -/
def execRes5C (s : State) : Result := resTarget 5 (.reg .c) s

/-- `RES 5,D`, 0xCB 0xAA (R234). -/
def execRes5D (s : State) : Result := resTarget 5 (.reg .d) s

/-- `RES 5,E`, 0xCB 0xAB (R234). -/
def execRes5E (s : State) : Result := resTarget 5 (.reg .e) s

/-- `RES 5,H`, 0xCB 0xAC (R234). -/
def execRes5H (s : State) : Result := resTarget 5 (.reg .h) s

/-- `RES 5,L`, 0xCB 0xAD (R234). -/
def execRes5L (s : State) : Result := resTarget 5 (.reg .l) s

/-- `RES 5,(HL)`, 0xCB 0xAE (R234). -/
def execRes5AtHL (s : State) : Result := resTarget 5 .atHL s

/-- `RES 5,A`, 0xCB 0xAF (R234). -/
def execRes5A (s : State) : Result := resTarget 5 (.reg .a) s

/-- `RES 6,B`, 0xCB 0xB0 (R234). -/
def execRes6B (s : State) : Result := resTarget 6 (.reg .b) s

/-- `RES 6,C`, 0xCB 0xB1 (R234). -/
def execRes6C (s : State) : Result := resTarget 6 (.reg .c) s

/-- `RES 6,D`, 0xCB 0xB2 (R234). -/
def execRes6D (s : State) : Result := resTarget 6 (.reg .d) s

/-- `RES 6,E`, 0xCB 0xB3 (R234). -/
def execRes6E (s : State) : Result := resTarget 6 (.reg .e) s

/-- `RES 6,H`, 0xCB 0xB4 (R234). -/
def execRes6H (s : State) : Result := resTarget 6 (.reg .h) s

/-- `RES 6,L`, 0xCB 0xB5 (R234). -/
def execRes6L (s : State) : Result := resTarget 6 (.reg .l) s

/-- `RES 6,(HL)`, 0xCB 0xB6 (R234). -/
def execRes6AtHL (s : State) : Result := resTarget 6 .atHL s

/-- `RES 6,A`, 0xCB 0xB7 (R234). -/
def execRes6A (s : State) : Result := resTarget 6 (.reg .a) s

/-- `RES 7,B`, 0xCB 0xB8 (R234). -/
def execRes7B (s : State) : Result := resTarget 7 (.reg .b) s

/-- `RES 7,C`, 0xCB 0xB9 (R234). -/
def execRes7C (s : State) : Result := resTarget 7 (.reg .c) s

/-- `RES 7,D`, 0xCB 0xBA (R234). -/
def execRes7D (s : State) : Result := resTarget 7 (.reg .d) s

/-- `RES 7,E`, 0xCB 0xBB (R234). -/
def execRes7E (s : State) : Result := resTarget 7 (.reg .e) s

/-- `RES 7,H`, 0xCB 0xBC (R234). -/
def execRes7H (s : State) : Result := resTarget 7 (.reg .h) s

/-- `RES 7,L`, 0xCB 0xBD (R234). -/
def execRes7L (s : State) : Result := resTarget 7 (.reg .l) s

/-- `RES 7,(HL)`, 0xCB 0xBE (R234). -/
def execRes7AtHL (s : State) : Result := resTarget 7 .atHL s

/-- `RES 7,A`, 0xCB 0xBF (R234). -/
def execRes7A (s : State) : Result := resTarget 7 (.reg .a) s

/-- `SET 0,B`, 0xCB 0xC0 (R235). -/
def execSet0B (s : State) : Result := setTarget 0 (.reg .b) s

/-- `SET 0,C`, 0xCB 0xC1 (R235). -/
def execSet0C (s : State) : Result := setTarget 0 (.reg .c) s

/-- `SET 0,D`, 0xCB 0xC2 (R235). -/
def execSet0D (s : State) : Result := setTarget 0 (.reg .d) s

/-- `SET 0,E`, 0xCB 0xC3 (R235). -/
def execSet0E (s : State) : Result := setTarget 0 (.reg .e) s

/-- `SET 0,H`, 0xCB 0xC4 (R235). -/
def execSet0H (s : State) : Result := setTarget 0 (.reg .h) s

/-- `SET 0,L`, 0xCB 0xC5 (R235). -/
def execSet0L (s : State) : Result := setTarget 0 (.reg .l) s

/-- `SET 0,(HL)`, 0xCB 0xC6 (R235). -/
def execSet0AtHL (s : State) : Result := setTarget 0 .atHL s

/-- `SET 0,A`, 0xCB 0xC7 (R235). -/
def execSet0A (s : State) : Result := setTarget 0 (.reg .a) s

/-- `SET 1,B`, 0xCB 0xC8 (R235). -/
def execSet1B (s : State) : Result := setTarget 1 (.reg .b) s

/-- `SET 1,C`, 0xCB 0xC9 (R235). -/
def execSet1C (s : State) : Result := setTarget 1 (.reg .c) s

/-- `SET 1,D`, 0xCB 0xCA (R235). -/
def execSet1D (s : State) : Result := setTarget 1 (.reg .d) s

/-- `SET 1,E`, 0xCB 0xCB (R235). -/
def execSet1E (s : State) : Result := setTarget 1 (.reg .e) s

/-- `SET 1,H`, 0xCB 0xCC (R235). -/
def execSet1H (s : State) : Result := setTarget 1 (.reg .h) s

/-- `SET 1,L`, 0xCB 0xCD (R235). -/
def execSet1L (s : State) : Result := setTarget 1 (.reg .l) s

/-- `SET 1,(HL)`, 0xCB 0xCE (R235). -/
def execSet1AtHL (s : State) : Result := setTarget 1 .atHL s

/-- `SET 1,A`, 0xCB 0xCF (R235). -/
def execSet1A (s : State) : Result := setTarget 1 (.reg .a) s

/-- `SET 2,B`, 0xCB 0xD0 (R235). -/
def execSet2B (s : State) : Result := setTarget 2 (.reg .b) s

/-- `SET 2,C`, 0xCB 0xD1 (R235). -/
def execSet2C (s : State) : Result := setTarget 2 (.reg .c) s

/-- `SET 2,D`, 0xCB 0xD2 (R235). -/
def execSet2D (s : State) : Result := setTarget 2 (.reg .d) s

/-- `SET 2,E`, 0xCB 0xD3 (R235). -/
def execSet2E (s : State) : Result := setTarget 2 (.reg .e) s

/-- `SET 2,H`, 0xCB 0xD4 (R235). -/
def execSet2H (s : State) : Result := setTarget 2 (.reg .h) s

/-- `SET 2,L`, 0xCB 0xD5 (R235). -/
def execSet2L (s : State) : Result := setTarget 2 (.reg .l) s

/-- `SET 2,(HL)`, 0xCB 0xD6 (R235). -/
def execSet2AtHL (s : State) : Result := setTarget 2 .atHL s

/-- `SET 2,A`, 0xCB 0xD7 (R235). -/
def execSet2A (s : State) : Result := setTarget 2 (.reg .a) s

/-- `SET 3,B`, 0xCB 0xD8 (R235). -/
def execSet3B (s : State) : Result := setTarget 3 (.reg .b) s

/-- `SET 3,C`, 0xCB 0xD9 (R235). -/
def execSet3C (s : State) : Result := setTarget 3 (.reg .c) s

/-- `SET 3,D`, 0xCB 0xDA (R235). -/
def execSet3D (s : State) : Result := setTarget 3 (.reg .d) s

/-- `SET 3,E`, 0xCB 0xDB (R235). -/
def execSet3E (s : State) : Result := setTarget 3 (.reg .e) s

/-- `SET 3,H`, 0xCB 0xDC (R235). -/
def execSet3H (s : State) : Result := setTarget 3 (.reg .h) s

/-- `SET 3,L`, 0xCB 0xDD (R235). -/
def execSet3L (s : State) : Result := setTarget 3 (.reg .l) s

/-- `SET 3,(HL)`, 0xCB 0xDE (R235). -/
def execSet3AtHL (s : State) : Result := setTarget 3 .atHL s

/-- `SET 3,A`, 0xCB 0xDF (R235). -/
def execSet3A (s : State) : Result := setTarget 3 (.reg .a) s

/-- `SET 4,B`, 0xCB 0xE0 (R235). -/
def execSet4B (s : State) : Result := setTarget 4 (.reg .b) s

/-- `SET 4,C`, 0xCB 0xE1 (R235). -/
def execSet4C (s : State) : Result := setTarget 4 (.reg .c) s

/-- `SET 4,D`, 0xCB 0xE2 (R235). -/
def execSet4D (s : State) : Result := setTarget 4 (.reg .d) s

/-- `SET 4,E`, 0xCB 0xE3 (R235). -/
def execSet4E (s : State) : Result := setTarget 4 (.reg .e) s

/-- `SET 4,H`, 0xCB 0xE4 (R235). -/
def execSet4H (s : State) : Result := setTarget 4 (.reg .h) s

/-- `SET 4,L`, 0xCB 0xE5 (R235). -/
def execSet4L (s : State) : Result := setTarget 4 (.reg .l) s

/-- `SET 4,(HL)`, 0xCB 0xE6 (R235). -/
def execSet4AtHL (s : State) : Result := setTarget 4 .atHL s

/-- `SET 4,A`, 0xCB 0xE7 (R235). -/
def execSet4A (s : State) : Result := setTarget 4 (.reg .a) s

/-- `SET 5,B`, 0xCB 0xE8 (R235). -/
def execSet5B (s : State) : Result := setTarget 5 (.reg .b) s

/-- `SET 5,C`, 0xCB 0xE9 (R235). -/
def execSet5C (s : State) : Result := setTarget 5 (.reg .c) s

/-- `SET 5,D`, 0xCB 0xEA (R235). -/
def execSet5D (s : State) : Result := setTarget 5 (.reg .d) s

/-- `SET 5,E`, 0xCB 0xEB (R235). -/
def execSet5E (s : State) : Result := setTarget 5 (.reg .e) s

/-- `SET 5,H`, 0xCB 0xEC (R235). -/
def execSet5H (s : State) : Result := setTarget 5 (.reg .h) s

/-- `SET 5,L`, 0xCB 0xED (R235). -/
def execSet5L (s : State) : Result := setTarget 5 (.reg .l) s

/-- `SET 5,(HL)`, 0xCB 0xEE (R235). -/
def execSet5AtHL (s : State) : Result := setTarget 5 .atHL s

/-- `SET 5,A`, 0xCB 0xEF (R235). -/
def execSet5A (s : State) : Result := setTarget 5 (.reg .a) s

/-- `SET 6,B`, 0xCB 0xF0 (R235). -/
def execSet6B (s : State) : Result := setTarget 6 (.reg .b) s

/-- `SET 6,C`, 0xCB 0xF1 (R235). -/
def execSet6C (s : State) : Result := setTarget 6 (.reg .c) s

/-- `SET 6,D`, 0xCB 0xF2 (R235). -/
def execSet6D (s : State) : Result := setTarget 6 (.reg .d) s

/-- `SET 6,E`, 0xCB 0xF3 (R235). -/
def execSet6E (s : State) : Result := setTarget 6 (.reg .e) s

/-- `SET 6,H`, 0xCB 0xF4 (R235). -/
def execSet6H (s : State) : Result := setTarget 6 (.reg .h) s

/-- `SET 6,L`, 0xCB 0xF5 (R235). -/
def execSet6L (s : State) : Result := setTarget 6 (.reg .l) s

/-- `SET 6,(HL)`, 0xCB 0xF6 (R235). -/
def execSet6AtHL (s : State) : Result := setTarget 6 .atHL s

/-- `SET 6,A`, 0xCB 0xF7 (R235). -/
def execSet6A (s : State) : Result := setTarget 6 (.reg .a) s

/-- `SET 7,B`, 0xCB 0xF8 (R235). -/
def execSet7B (s : State) : Result := setTarget 7 (.reg .b) s

/-- `SET 7,C`, 0xCB 0xF9 (R235). -/
def execSet7C (s : State) : Result := setTarget 7 (.reg .c) s

/-- `SET 7,D`, 0xCB 0xFA (R235). -/
def execSet7D (s : State) : Result := setTarget 7 (.reg .d) s

/-- `SET 7,E`, 0xCB 0xFB (R235). -/
def execSet7E (s : State) : Result := setTarget 7 (.reg .e) s

/-- `SET 7,H`, 0xCB 0xFC (R235). -/
def execSet7H (s : State) : Result := setTarget 7 (.reg .h) s

/-- `SET 7,L`, 0xCB 0xFD (R235). -/
def execSet7L (s : State) : Result := setTarget 7 (.reg .l) s

/-- `SET 7,(HL)`, 0xCB 0xFE (R235). -/
def execSet7AtHL (s : State) : Result := setTarget 7 .atHL s

/-- `SET 7,A`, 0xCB 0xFF (R235). -/
def execSet7A (s : State) : Result := setTarget 7 (.reg .a) s

end Sys2Proof.Machine
end

