-- ==== Sys2Proof/Machine/Control.lean ====
section
/-! DEFINITION. Jumps, calls and returns (44_control.md, R240 to R251): the shared forms, then one meaning for each
instruction. PC is already past the whole instruction, taken or not (R240). -/

namespace Sys2Proof.Machine

/-- `PC <- PC + sext_16(e)` (R244). -/
def branch (e : Byte) (s : State) : State := { s with pc := s.pc + sext16 e }

/-- `Push16(PC); PC <- target` (R246, R251). -/
def call (target : Word) (s : State) : State := { push16 s.pc s with pc := target }

/-- `JP cc,nn` (R242). -/
def jumpCond (cc : Cond) (nn : Word) (s : State) : Result :=
  if condHolds cc s then complete 16 { s with pc := nn } else complete 12 s

/-- `JR cc,e` (R245). -/
def jumpRelCond (cc : Cond) (e : Byte) (s : State) : Result :=
  if condHolds cc s then complete 12 (branch e s) else complete 8 s

/-- `CALL cc,nn` (R247). -/
def callCond (cc : Cond) (nn : Word) (s : State) : Result :=
  if condHolds cc s then complete 24 (call nn s) else complete 12 s

/-- `RET cc` (R249). -/
def returnCond (cc : Cond) (s : State) : Result :=
  if condHolds cc s then complete 20 (popPC s) else complete 8 s

/-- `RST t`: `Push16(PC); PC <- t * 8` (R251). -/
def restart (t : Fin 8) (s : State) : Result := complete 16 (call (BitVec.ofNat 16 (t.val * 8)) s)

/-- `JR e`, 0x18 (R244). -/
def execJrE (e : Byte) (s : State) : Result := complete 12 (branch e s)

/-- `JR NZ,e`, 0x20 (R245). -/
def execJrNZE (e : Byte) (s : State) : Result := jumpRelCond .nz e s

/-- `JR Z,e`, 0x28 (R245). -/
def execJrZE (e : Byte) (s : State) : Result := jumpRelCond .z e s

/-- `JR NC,e`, 0x30 (R245). -/
def execJrNCE (e : Byte) (s : State) : Result := jumpRelCond .nc e s

/-- `JR C,e`, 0x38 (R245). -/
def execJrCE (e : Byte) (s : State) : Result := jumpRelCond .c e s

/-- `RET NZ`, 0xC0 (R249). -/
def execRetNZ (s : State) : Result := returnCond .nz s

/-- `JP NZ,nn`, 0xC2 (R242). -/
def execJpNZNn (nn : Word) (s : State) : Result := jumpCond .nz nn s

/-- `JP nn`, 0xC3 (R241). -/
def execJpNn (nn : Word) (s : State) : Result := complete 16 { s with pc := nn }

/-- `CALL NZ,nn`, 0xC4 (R247). -/
def execCallNZNn (nn : Word) (s : State) : Result := callCond .nz nn s

/-- `RST 00H`, 0xC7 (R251). -/
def execRst00H (s : State) : Result := restart 0 s

/-- `RET Z`, 0xC8 (R249). -/
def execRetZ (s : State) : Result := returnCond .z s

/-- `RET`, 0xC9 (R248). -/
def execRet (s : State) : Result := complete 16 (popPC s)

/-- `JP Z,nn`, 0xCA (R242). -/
def execJpZNn (nn : Word) (s : State) : Result := jumpCond .z nn s

/-- `CALL Z,nn`, 0xCC (R247). -/
def execCallZNn (nn : Word) (s : State) : Result := callCond .z nn s

/-- `CALL nn`, 0xCD (R246). -/
def execCallNn (nn : Word) (s : State) : Result := complete 24 (call nn s)

/-- `RST 08H`, 0xCF (R251). -/
def execRst08H (s : State) : Result := restart 1 s

/-- `RET NC`, 0xD0 (R249). -/
def execRetNC (s : State) : Result := returnCond .nc s

/-- `JP NC,nn`, 0xD2 (R242). -/
def execJpNCNn (nn : Word) (s : State) : Result := jumpCond .nc nn s

/-- `CALL NC,nn`, 0xD4 (R247). -/
def execCallNCNn (nn : Word) (s : State) : Result := callCond .nc nn s

/-- `RST 10H`, 0xD7 (R251). -/
def execRst10H (s : State) : Result := restart 2 s

/-- `RET C`, 0xD8 (R249). -/
def execRetC (s : State) : Result := returnCond .c s

/-- `RETI`, 0xD9 (R250). -/
def execReti (s : State) : Result := complete 16 (returnFromInterrupt s)

/-- `JP C,nn`, 0xDA (R242). -/
def execJpCNn (nn : Word) (s : State) : Result := jumpCond .c nn s

/-- `CALL C,nn`, 0xDC (R247). -/
def execCallCNn (nn : Word) (s : State) : Result := callCond .c nn s

/-- `RST 18H`, 0xDF (R251). -/
def execRst18H (s : State) : Result := restart 3 s

/-- `RST 20H`, 0xE7 (R251). -/
def execRst20H (s : State) : Result := restart 4 s

/-- `JP HL`, 0xE9 (R243). -/
def execJpHL (s : State) : Result := complete 4 { s with pc := s.hl }

/-- `RST 28H`, 0xEF (R251). -/
def execRst28H (s : State) : Result := restart 5 s

/-- `RST 30H`, 0xF7 (R251). -/
def execRst30H (s : State) : Result := restart 6 s

/-- `RST 38H`, 0xFF (R251). -/
def execRst38H (s : State) : Result := restart 7 s

end Sys2Proof.Machine
end

