-- ==== Sys2Proof/Machine/Loads.lean ====
section
/-! DEFINITION. Loads, stores and stack transfers (40_loads.md, R141 to R166): the shared forms, then one meaning for each
instruction. PC is already past the whole instruction (R101, Machine/Fetch.lean). -/

namespace Sys2Proof.Machine

/-- `LD r,r'` (R141). -/
def loadRegReg (dst src : Reg8) (s : State) : Result := complete 4 (s.setReg dst (s.reg src))

/-- `LD r,n` (R142). -/
def loadRegImm (dst : Reg8) (n : Byte) (s : State) : Result := complete 8 (s.setReg dst n)

/-- A register gets the byte at an address held in registers, cost 8 (R143, R146, R147, R154). -/
def loadRegAt (dst : Reg8) (addr : Word) (s : State) : Result :=
  let r := memRead addr s
  complete 8 (r.2.setReg dst r.1)

/-- A byte is stored at an address held in registers, cost 8 (R144, R148, R149, R155). -/
def storeAt (addr : Word) (v : Byte) (s : State) : Result := complete 8 (memWrite addr v s)

/-- A gets the byte at an address the instruction names (R150, R152). -/
def loadAAbsolute (cost : Nat) (addr : Word) (s : State) : Result :=
  let r := memRead addr s
  complete cost (r.2.setReg .a r.1)

/-- A is stored at an address the instruction names (R151, R153). -/
def storeAAbsolute (cost : Nat) (addr : Word) (s : State) : Result := complete cost (memWrite addr s.a s)

/-- A gets the byte at HL, then HL moves by `step` (R157, R159). -/
def loadAStep (step : Word) (s : State) : Result :=
  let r := memRead s.hl s
  complete 8 ((r.2.setReg .a r.1).setHL (s.hl + step))

/-- A is stored at HL, then HL moves by `step` (R156, R158). -/
def storeAStep (step : Word) (s : State) : Result := complete 8 ((memWrite s.hl s.a s).setHL (s.hl + step))

/-- `LD rr,nn` (R160). -/
def loadPairImm (p : Pair) (nn : Word) (s : State) : Result := complete 12 (s.setPair p nn)

/-- `LD HL,SP+e` (R163). -/
def loadHLSpOffset (e : Byte) (s : State) : Result :=
  let r := addSpOffset s.sp e
  complete 12 ((s.setHL r.1).setFlags r.2)

/-- `PUSH rr` (R164). -/
def pushPair (p : StackPair) (s : State) : Result := complete 16 (push16 (s.stackPair p) s)

/-- `POP rr` (R165), and `POP AF` with F's low nibble forced to zero (R166). -/
def popPair (p : StackPair) (s : State) : Result :=
  let r := pop16 s
  complete 12 (r.2.setStackPair p r.1)

/-- `LD BC,nn`, 0x01 (R160). -/
def execLdBCNn (nn : Word) (s : State) : Result := loadPairImm .bc nn s

/-- `LD (BC),A`, 0x02 (R148). -/
def execLdAtBCA (s : State) : Result := storeAt s.bc s.a s

/-- `LD B,n`, 0x06 (R142). -/
def execLdBN (n : Byte) (s : State) : Result := loadRegImm .b n s

/-- `LD (nn),SP`, 0x08 (R161). -/
def execLdAtNnSP (nn : Word) (s : State) : Result := complete 20 (memWrite16 nn s.sp s)

/-- `LD A,(BC)`, 0x0A (R146). -/
def execLdAAtBC (s : State) : Result := loadRegAt .a s.bc s

/-- `LD C,n`, 0x0E (R142). -/
def execLdCN (n : Byte) (s : State) : Result := loadRegImm .c n s

/-- `LD DE,nn`, 0x11 (R160). -/
def execLdDENn (nn : Word) (s : State) : Result := loadPairImm .de nn s

/-- `LD (DE),A`, 0x12 (R149). -/
def execLdAtDEA (s : State) : Result := storeAt s.de s.a s

/-- `LD D,n`, 0x16 (R142). -/
def execLdDN (n : Byte) (s : State) : Result := loadRegImm .d n s

/-- `LD A,(DE)`, 0x1A (R147). -/
def execLdAAtDE (s : State) : Result := loadRegAt .a s.de s

/-- `LD E,n`, 0x1E (R142). -/
def execLdEN (n : Byte) (s : State) : Result := loadRegImm .e n s

/-- `LD HL,nn`, 0x21 (R160). -/
def execLdHLNn (nn : Word) (s : State) : Result := loadPairImm .hl nn s

/-- `LD (HL+),A`, 0x22 (R156). -/
def execLdAtHLIncA (s : State) : Result := storeAStep 1#16 s

/-- `LD H,n`, 0x26 (R142). -/
def execLdHN (n : Byte) (s : State) : Result := loadRegImm .h n s

/-- `LD A,(HL+)`, 0x2A (R157). -/
def execLdAAtHLInc (s : State) : Result := loadAStep 1#16 s

/-- `LD L,n`, 0x2E (R142). -/
def execLdLN (n : Byte) (s : State) : Result := loadRegImm .l n s

/-- `LD SP,nn`, 0x31 (R160). -/
def execLdSPNn (nn : Word) (s : State) : Result := loadPairImm .sp nn s

/-- `LD (HL-),A`, 0x32 (R158). -/
def execLdAtHLDecA (s : State) : Result := storeAStep (-1#16) s

/-- `LD (HL),n`, 0x36 (R145). -/
def execLdAtHLN (n : Byte) (s : State) : Result := complete 12 (memWrite s.hl n s)

/-- `LD A,(HL-)`, 0x3A (R159). -/
def execLdAAtHLDec (s : State) : Result := loadAStep (-1#16) s

/-- `LD A,n`, 0x3E (R142). -/
def execLdAN (n : Byte) (s : State) : Result := loadRegImm .a n s

/-- `LD B,B`, 0x40 (R141). -/
def execLdBB (s : State) : Result := loadRegReg .b .b s

/-- `LD B,C`, 0x41 (R141). -/
def execLdBC (s : State) : Result := loadRegReg .b .c s

/-- `LD B,D`, 0x42 (R141). -/
def execLdBD (s : State) : Result := loadRegReg .b .d s

/-- `LD B,E`, 0x43 (R141). -/
def execLdBE (s : State) : Result := loadRegReg .b .e s

/-- `LD B,H`, 0x44 (R141). -/
def execLdBH (s : State) : Result := loadRegReg .b .h s

/-- `LD B,L`, 0x45 (R141). -/
def execLdBL (s : State) : Result := loadRegReg .b .l s

/-- `LD B,(HL)`, 0x46 (R143). -/
def execLdBAtHL (s : State) : Result := loadRegAt .b s.hl s

/-- `LD B,A`, 0x47 (R141). -/
def execLdBA (s : State) : Result := loadRegReg .b .a s

/-- `LD C,B`, 0x48 (R141). -/
def execLdCB (s : State) : Result := loadRegReg .c .b s

/-- `LD C,C`, 0x49 (R141). -/
def execLdCC (s : State) : Result := loadRegReg .c .c s

/-- `LD C,D`, 0x4A (R141). -/
def execLdCD (s : State) : Result := loadRegReg .c .d s

/-- `LD C,E`, 0x4B (R141). -/
def execLdCE (s : State) : Result := loadRegReg .c .e s

/-- `LD C,H`, 0x4C (R141). -/
def execLdCH (s : State) : Result := loadRegReg .c .h s

/-- `LD C,L`, 0x4D (R141). -/
def execLdCL (s : State) : Result := loadRegReg .c .l s

/-- `LD C,(HL)`, 0x4E (R143). -/
def execLdCAtHL (s : State) : Result := loadRegAt .c s.hl s

/-- `LD C,A`, 0x4F (R141). -/
def execLdCA (s : State) : Result := loadRegReg .c .a s

/-- `LD D,B`, 0x50 (R141). -/
def execLdDB (s : State) : Result := loadRegReg .d .b s

/-- `LD D,C`, 0x51 (R141). -/
def execLdDC (s : State) : Result := loadRegReg .d .c s

/-- `LD D,D`, 0x52 (R141). -/
def execLdDD (s : State) : Result := loadRegReg .d .d s

/-- `LD D,E`, 0x53 (R141). -/
def execLdDE (s : State) : Result := loadRegReg .d .e s

/-- `LD D,H`, 0x54 (R141). -/
def execLdDH (s : State) : Result := loadRegReg .d .h s

/-- `LD D,L`, 0x55 (R141). -/
def execLdDL (s : State) : Result := loadRegReg .d .l s

/-- `LD D,(HL)`, 0x56 (R143). -/
def execLdDAtHL (s : State) : Result := loadRegAt .d s.hl s

/-- `LD D,A`, 0x57 (R141). -/
def execLdDA (s : State) : Result := loadRegReg .d .a s

/-- `LD E,B`, 0x58 (R141). -/
def execLdEB (s : State) : Result := loadRegReg .e .b s

/-- `LD E,C`, 0x59 (R141). -/
def execLdEC (s : State) : Result := loadRegReg .e .c s

/-- `LD E,D`, 0x5A (R141). -/
def execLdED (s : State) : Result := loadRegReg .e .d s

/-- `LD E,E`, 0x5B (R141). -/
def execLdEE (s : State) : Result := loadRegReg .e .e s

/-- `LD E,H`, 0x5C (R141). -/
def execLdEH (s : State) : Result := loadRegReg .e .h s

/-- `LD E,L`, 0x5D (R141). -/
def execLdEL (s : State) : Result := loadRegReg .e .l s

/-- `LD E,(HL)`, 0x5E (R143). -/
def execLdEAtHL (s : State) : Result := loadRegAt .e s.hl s

/-- `LD E,A`, 0x5F (R141). -/
def execLdEA (s : State) : Result := loadRegReg .e .a s

/-- `LD H,B`, 0x60 (R141). -/
def execLdHB (s : State) : Result := loadRegReg .h .b s

/-- `LD H,C`, 0x61 (R141). -/
def execLdHC (s : State) : Result := loadRegReg .h .c s

/-- `LD H,D`, 0x62 (R141). -/
def execLdHD (s : State) : Result := loadRegReg .h .d s

/-- `LD H,E`, 0x63 (R141). -/
def execLdHE (s : State) : Result := loadRegReg .h .e s

/-- `LD H,H`, 0x64 (R141). -/
def execLdHH (s : State) : Result := loadRegReg .h .h s

/-- `LD H,L`, 0x65 (R141). -/
def execLdHL (s : State) : Result := loadRegReg .h .l s

/-- `LD H,(HL)`, 0x66 (R143). -/
def execLdHAtHL (s : State) : Result := loadRegAt .h s.hl s

/-- `LD H,A`, 0x67 (R141). -/
def execLdHA (s : State) : Result := loadRegReg .h .a s

/-- `LD L,B`, 0x68 (R141). -/
def execLdLB (s : State) : Result := loadRegReg .l .b s

/-- `LD L,C`, 0x69 (R141). -/
def execLdLC (s : State) : Result := loadRegReg .l .c s

/-- `LD L,D`, 0x6A (R141). -/
def execLdLD (s : State) : Result := loadRegReg .l .d s

/-- `LD L,E`, 0x6B (R141). -/
def execLdLE (s : State) : Result := loadRegReg .l .e s

/-- `LD L,H`, 0x6C (R141). -/
def execLdLH (s : State) : Result := loadRegReg .l .h s

/-- `LD L,L`, 0x6D (R141). -/
def execLdLL (s : State) : Result := loadRegReg .l .l s

/-- `LD L,(HL)`, 0x6E (R143). -/
def execLdLAtHL (s : State) : Result := loadRegAt .l s.hl s

/-- `LD L,A`, 0x6F (R141). -/
def execLdLA (s : State) : Result := loadRegReg .l .a s

/-- `LD (HL),B`, 0x70 (R144). -/
def execLdAtHLB (s : State) : Result := storeAt s.hl (s.reg .b) s

/-- `LD (HL),C`, 0x71 (R144). -/
def execLdAtHLC (s : State) : Result := storeAt s.hl (s.reg .c) s

/-- `LD (HL),D`, 0x72 (R144). -/
def execLdAtHLD (s : State) : Result := storeAt s.hl (s.reg .d) s

/-- `LD (HL),E`, 0x73 (R144). -/
def execLdAtHLE (s : State) : Result := storeAt s.hl (s.reg .e) s

/-- `LD (HL),H`, 0x74 (R144). -/
def execLdAtHLH (s : State) : Result := storeAt s.hl (s.reg .h) s

/-- `LD (HL),L`, 0x75 (R144). -/
def execLdAtHLL (s : State) : Result := storeAt s.hl (s.reg .l) s

/-- `LD (HL),A`, 0x77 (R144). -/
def execLdAtHLA (s : State) : Result := storeAt s.hl (s.reg .a) s

/-- `LD A,B`, 0x78 (R141). -/
def execLdAB (s : State) : Result := loadRegReg .a .b s

/-- `LD A,C`, 0x79 (R141). -/
def execLdAC (s : State) : Result := loadRegReg .a .c s

/-- `LD A,D`, 0x7A (R141). -/
def execLdAD (s : State) : Result := loadRegReg .a .d s

/-- `LD A,E`, 0x7B (R141). -/
def execLdAE (s : State) : Result := loadRegReg .a .e s

/-- `LD A,H`, 0x7C (R141). -/
def execLdAH (s : State) : Result := loadRegReg .a .h s

/-- `LD A,L`, 0x7D (R141). -/
def execLdAL (s : State) : Result := loadRegReg .a .l s

/-- `LD A,(HL)`, 0x7E (R143). -/
def execLdAAtHL (s : State) : Result := loadRegAt .a s.hl s

/-- `LD A,A`, 0x7F (R141). -/
def execLdAA (s : State) : Result := loadRegReg .a .a s

/-- `POP BC`, 0xC1 (R165). -/
def execPopBC (s : State) : Result := popPair .bc s

/-- `PUSH BC`, 0xC5 (R164). -/
def execPushBC (s : State) : Result := pushPair .bc s

/-- `POP DE`, 0xD1 (R165). -/
def execPopDE (s : State) : Result := popPair .de s

/-- `PUSH DE`, 0xD5 (R164). -/
def execPushDE (s : State) : Result := pushPair .de s

/-- `LDH (n),A`, 0xE0 (R153). -/
def execLdhAtNA (n : Byte) (s : State) : Result := storeAAbsolute 12 (highPage n) s

/-- `POP HL`, 0xE1 (R165). -/
def execPopHL (s : State) : Result := popPair .hl s

/-- `LD (C),A`, 0xE2 (R155). -/
def execLdAtCA (s : State) : Result := storeAt (highPage s.c) s.a s

/-- `PUSH HL`, 0xE5 (R164). -/
def execPushHL (s : State) : Result := pushPair .hl s

/-- `LD (nn),A`, 0xEA (R151). -/
def execLdAtNnA (nn : Word) (s : State) : Result := storeAAbsolute 16 nn s

/-- `LDH A,(n)`, 0xF0 (R152). -/
def execLdhAAtN (n : Byte) (s : State) : Result := loadAAbsolute 12 (highPage n) s

/-- `POP AF`, 0xF1 (R166). -/
def execPopAF (s : State) : Result := popPair .af s

/-- `LD A,(C)`, 0xF2 (R154). -/
def execLdAAtC (s : State) : Result := loadRegAt .a (highPage s.c) s

/-- `PUSH AF`, 0xF5 (R164). -/
def execPushAF (s : State) : Result := pushPair .af s

/-- `LD HL,SP+e`, 0xF8 (R163). -/
def execLdHLSPE (e : Byte) (s : State) : Result := loadHLSpOffset e s

/-- `LD SP,HL`, 0xF9 (R162). -/
def execLdSPHL (s : State) : Result := complete 8 { s with sp := s.hl }

/-- `LD A,(nn)`, 0xFA (R150). -/
def execLdAAtNn (nn : Word) (s : State) : Result := loadAAbsolute 16 nn s

end Sys2Proof.Machine
end

