-- ==== Sys2Proof/Machine/Rotates.lean ====
section
/-! DEFINITION. Accumulator rotates (43_rotate_shift_bit.md, R220 to R223). -/

namespace Sys2Proof.Machine

/-- `RLCA`, `RRCA`, `RLA`, `RRA`: the rotation of A, Z always cleared (R220 to R223). -/
def rotateA (op : RotOp) (s : State) : Result :=
  let q := rotResult op s.a s.flags.c
  complete 4 ({ s with a := q.1 }.setFlags (rotAFlags q.2))

/-- `RLCA`, 0x07 (R220). -/
def execRlca (s : State) : Result := rotateA .rlc s

/-- `RRCA`, 0x0F (R221). -/
def execRrca (s : State) : Result := rotateA .rrc s

/-- `RLA`, 0x17 (R222). -/
def execRla (s : State) : Result := rotateA .rl s

/-- `RRA`, 0x1F (R223). -/
def execRra (s : State) : Result := rotateA .rr s

end Sys2Proof.Machine
end

