-- ==== Sys2Proof/Machine/System.lean ====
section
/-! DEFINITION. System and control instructions (45_system.md, R260 to R265): the shared forms, then one meaning for each
instruction. -/

namespace Sys2Proof.Machine

/-- `HALT` (R261): the HALT bug when IME = 0 and an interrupt is pending, else the Halted state. -/
def haltCpu (s : State) : Result :=
  if s.ime = false ∧ pending s ≠ 0#5 then complete 4 { s with haltBug := true }
  else complete 4 { s with isHalted := true }

/-- `STOP` (R262): as HALT without the HALT-bug test, or the fault `Refused(STOP, addr)`, by the parameter `STOP_MODE`. The
second byte has been fetched and is ignored (D35). -/
def stopCpu (s : State) : Result :=
  match s.cfg.stopMode with
  | .asHalt => complete 4 { s with isHalted := true }
  | .refuse => raiseFault (.refusedStop s.opAddr) s

/-- `INVALID` (R265): `raise InvalidOpcode(op, addr)`. The instruction does not complete and has no cost; the tick that
executes it records the fault, and every later tick is stuck (R289). -/
def invalidOpcode (op : Byte) (s : State) : Result := raiseFault (.invalidOpcode op s.opAddr) s

/-- `NOP`, 0x00 (R260). -/
def execNop (s : State) : Result := complete 4 s

/-- `STOP`, 0x10 (R262). -/
def execStop (_n : Byte) (s : State) : Result := stopCpu s

/-- `HALT`, 0x76 (R261). -/
def execHalt (s : State) : Result := haltCpu s

/-- `INVALID`, 0xD3 (R265). -/
def execInvalidD3 (s : State) : Result := invalidOpcode 0xD3#8 s

/-- `INVALID`, 0xDB (R265). -/
def execInvalidDB (s : State) : Result := invalidOpcode 0xDB#8 s

/-- `INVALID`, 0xDD (R265). -/
def execInvalidDD (s : State) : Result := invalidOpcode 0xDD#8 s

/-- `INVALID`, 0xE3 (R265). -/
def execInvalidE3 (s : State) : Result := invalidOpcode 0xE3#8 s

/-- `INVALID`, 0xE4 (R265). -/
def execInvalidE4 (s : State) : Result := invalidOpcode 0xE4#8 s

/-- `INVALID`, 0xEB (R265). -/
def execInvalidEB (s : State) : Result := invalidOpcode 0xEB#8 s

/-- `INVALID`, 0xEC (R265). -/
def execInvalidEC (s : State) : Result := invalidOpcode 0xEC#8 s

/-- `INVALID`, 0xED (R265). -/
def execInvalidED (s : State) : Result := invalidOpcode 0xED#8 s

/-- `DI`, 0xF3 (R263). -/
def execDi (s : State) : Result := complete 4 { s with ime := false }

/-- `INVALID`, 0xF4 (R265). -/
def execInvalidF4 (s : State) : Result := invalidOpcode 0xF4#8 s

/-- `EI`, 0xFB (R264). -/
def execEi (s : State) : Result := complete 4 { s with eiImeEnable := true }

/-- `INVALID`, 0xFC (R265). -/
def execInvalidFC (s : State) : Result := invalidOpcode 0xFC#8 s

/-- `INVALID`, 0xFD (R265). -/
def execInvalidFD (s : State) : Result := invalidOpcode 0xFD#8 s

end Sys2Proof.Machine
end

