-- ==== Sys2Proof/Machine/Fetch.lean ====
section
/-! DEFINITION. Fetching an instruction's bytes and decoding them (R101, R288), and placing bytes where the next fetch
reads them. All fetches of an instruction precede its data accesses (R101), so the instruction is fetched whole here and its
meaning starts with PC past all of it. -/

namespace Sys2Proof.Machine

/-- `Fetch8()` (R12, R101). -/
def fetch8 (s : State) : Byte × State :=
  let r := memRead s.pc s
  (r.1, { r.2 with pc := r.2.pc + 1#16 })

/-- The opcode fetch of `FetchExecute` (R288): the armed EI is cleared, the byte at PC is read, and PC advances past it
unless `halt_bug` is set, which it consumes. -/
def fetchOpcode (s : State) : Byte × State :=
  let r := memRead s.pc s
  (r.1,
    { r.2 with
        pc := if s.haltBug then s.pc else s.pc + 1#16
        opAddr := s.pc
        haltBug := false
        eiImeEnable := false })

/-- What a fetch brings: the opcode byte, the instruction, and the state with PC past it. -/
structure Fetched where
  op : Byte
  instr : Instr
  state : State
  deriving DecidableEq, Repr

/-- Fetch and decode: the opcode, then each further byte by `Fetch8` at successive addresses (R100, R101, R103). -/
def fetchInstr (s : State) : Fetched :=
  let o := fetchOpcode s
  match primary o.1 with
  | .op0 i => { op := o.1, instr := i, state := o.2 }
  | .op1 f =>
    let n := fetch8 o.2
    { op := o.1, instr := f n.1, state := n.2 }
  | .op2 f =>
    let lo := fetch8 o.2
    let hi := fetch8 lo.2
    { op := o.1, instr := f (joinBytes hi.1 lo.1), state := hi.2 }

/-- A byte placed at an address from outside the machine, with no bus event: in the store, or in an in-block register as a
write would leave it. -/
def placeByte (addr : Word) (v : Byte) (s : State) : State :=
  match ioRegAt addr with
  | some r => writeIo r v s
  | none => { s with mem := s.mem.write addr.toNat v }

/-- Bytes placed at successive addresses (mod 2^16). -/
def placeBytes (addr : Word) (bytes : List Byte) (s : State) : State :=
  match bytes with
  | [] => s
  | v :: rest => placeBytes (addr + 1#16) rest (placeByte addr v s)

/-- The next boundary of `s` would dispatch rather than fetch (R283): IME is set and, after the requester's move and step 1 of
the tick, an interrupt is pending. -/
def dispatchDue (s : State) : Bool := s.ime && decide (pending (timerStep (requesterMove s)) ≠ 0#5)

/-- `s` made ready so that its very next tick fetches at PC from the store: no instruction in flight, not halted, no HALT bug,
no fault, no scripted answer waiting, and IME clear if a dispatch would come first. -/
def readyToFetch (s : State) : State :=
  { s with
      instClocks := 0
      isHalted := false
      haltBug := false
      fault := none
      busAnswers := []
      ime := s.ime && !dispatchDue s }

end Sys2Proof.Machine
end

