-- ==== Sys2Proof/Machine/Tick.lean ====
section
/-! DEFINITION. The tick state machine (60_exceptions.md R280 to R291): one call is one clock tick and one atomic step. -/

namespace Sys2Proof.Machine

/-- Step 3 (R291): `inst_clocks` goes down by one. -/
def countDown (s : State) : State := { s with instClocks := s.instClocks - 1 }

/-- The end of a fetch tick (R288, R289, R291). A fault leaves everything as the raise left it, IME unset even when armed and
`inst_clocks` untouched. Otherwise the EI armed before the fetch takes effect, unless the instruction was DI (op 0xF3, D10),
and step 3 counts down. -/
def finishFetchTick (armed : Bool) (op : Byte) (s : State) : State :=
  if s.fault.isSome then s
  else countDown { s with ime := s.ime || (armed && decide (op ≠ 0xF3#8)) }

/-- `FetchExecute()` and step 3 (R288, R291). -/
def fetchExecute (s : State) : Result :=
  let fetched := fetchInstr s
  match exec fetched.instr fetched.state with
  | .next t => .next (finishFetchTick s.eiImeEnable fetched.op t)
  | .fault r => .fault r
  | .refused r => .refused r

/-- The wake (R284): a pending interrupt clears `is_halted`, whether or not IME is set. -/
def wake (s : State) : State := { s with isHalted := s.isHalted && decide (pending s = 0#5) }

/-- Step 2 at a boundary, and step 3 (R281, R283): a dispatch, a fetch, or a halted charge of 4 ticks (R290). -/
def boundaryTick (s : State) : Result :=
  let p := pending s
  let s1 := wake s
  if s.ime = true ∧ p ≠ 0#5 then .next (countDown (dispatch p s1))
  else if s1.isHalted = false then fetchExecute s1
  else .next (countDown { s1 with instClocks := 4 })

/-- `Tick()` (R281). `Stuck` is the outcome `fault`; every other tick answers the next state, a faulting one with `fault`
set (`tickTag` in Machine/Entry.lean reads Boundary, Continued and Fault off it). -/
def tick (s : State) : Result :=
  match s.fault with
  | some record => .fault (.stuck record)
  | none =>
    let s1 := timerStep s
    if s1.instClocks = 0 then boundaryTick s1 else .next (countDown s1)

/-- The requester agent's move, then the CPU's tick (R295, R313): agents are interleaved only between ticks. -/
def agentsTick (s : State) : Result := tick (requesterMove s)

end Sys2Proof.Machine
end

