-- ==== Sys2Proof/Machine/Step.lean ====
section
/-! DEFINITION. The machine's step, and how a word of the opcode table is put where the next step fetches. -/

namespace Sys2Proof.Machine

/-- One clock tick of the block, after the requester agent's move (R281, R295). -/
def step : State → Host.Outcome State Fault Refusal := agentsTick

/-- `s` with the table word's bytes stored at PC and the very next tick made a fetch (notes/assumptions/9.md). Where an address
of the instruction is an in-block register, the byte goes to that register as a write would leave it. -/
def State.withFetchWord (s : State) (nbits w : Nat) : State :=
  readyToFetch (placeBytes s.pc (tableBytes nbits w) s)

end Sys2Proof.Machine
end

