-- ==== Sys2Proof/Machine/Entry.lean ====
section
/-! DEFINITION. The orchestrator's surface (60_exceptions.md R280, R308 to R311, R314; 70_reset_and_hazards.md R345):
construction, the register snapshot, breakpoints and the three entry points. It calls the tick and never changes what a
tick does. -/

namespace Sys2Proof.Machine

/-- What an entry point returns (R310, D25). -/
inductive EntryOutcome where
  | continued | boundary | breakpointHit | frameDone | fault | stuck
  deriving DecidableEq, Repr

/-- What a tick that answered `s` returned (R281, R289, R291): Fault if it set `fault`, Boundary if `inst_clocks` reached 0. -/
def tickTag (s : State) : EntryOutcome :=
  if s.fault.isSome then .fault else if s.instClocks = 0 then .boundary else .continued

/-- `tick_once()`: one tick, no breakpoint check (R310, D26). Stuck changes nothing; no tick is refused. -/
def tickOnce (s : State) : EntryOutcome × State :=
  match agentsTick s with
  | .next t => (tickTag t, t)
  | .fault _ => (.stuck, s)
  | .refused _ => (.stuck, s)

/-- A breakpoint match at a boundary (R309). -/
def breakpointMatches (s : State) : Bool := s.bpEnabled && decide (s.pc = s.bpAddr)

/-- `CheckBreakpoint()`'s effect on a match: the breakpoint is disabled, nothing else changes (R309). -/
def disableBreakpoint (s : State) : State := { s with bpEnabled := false }

/-- One tick of a multi-tick entry point: the tick, then after a Boundary the breakpoint check (R309, R310). -/
def tickChecked (s : State) : EntryOutcome × State :=
  let r := tickOnce s
  if r.1 = .boundary ∧ breakpointMatches r.2 = true then (.breakpointHit, disableBreakpoint r.2) else r

/-- The outcomes that end a multi-tick call at once (R310). -/
def endsCall : EntryOutcome → Bool
  | .fault => true
  | .stuck => true
  | .breakpointHit => true
  | .frameDone => false
  | .boundary => false
  | .continued => false

/-- At most `k + 1` ticks, ended by a fault, by Stuck or by a breakpoint; the outcome is the last tick's. -/
def tickUpTo : Nat → State → EntryOutcome × State
  | 0, s => tickChecked s
  | k + 1, s =>
    let r := tickChecked s
    if endsCall r.1 then r else tickUpTo k r.2

/-- `tick_instr()`: exactly 4 ticks unless it stops early (R310). -/
def tickInstr (s : State) : EntryOutcome × State := tickUpTo 3 s

/-- `tick_frame()` (R310), `frame_done` given as the video oracle's answers, one after each tick (D39). Where the answers run out
the call has not returned; the outcome is then the last tick's, Continued if there was none. -/
def tickFrame : List Bool → State → EntryOutcome × State
  | [], s => (.continued, s)
  | done :: rest, s =>
    let r := tickChecked s
    if endsCall r.1 then r
    else if done then (.frameDone, r.2)
    else match rest with
      | [] => r
      | next :: later => tickFrame (next :: later) r.2

/-- `registers_t` (R39, R311). -/
structure Registers where
  af : Word
  bc : Word
  de : Word
  hl : Word
  sp : Word
  pc : Word
  deriving DecidableEq, Repr

/-- `get_registers()` (R39, R311). -/
def getRegisters (s : State) : Registers :=
  { af := s.af, bc := s.bc, de := s.de, hl := s.hl, sp := s.sp, pc := s.pc }

/-- The scheduler states of R280. Executing and Interrupt-Servicing behave alike on every tick and are one name here. -/
inductive SchedulerState where
  | idle | inFlight | halted | faulted
  deriving DecidableEq, Repr

/-- The scheduler state, derived and not stored (R280, R308). -/
def schedulerState (s : State) : SchedulerState :=
  if s.fault.isSome then .faulted
  else if s.isHalted then .halted
  else if s.instClocks = 0 then .idle
  else .inFlight

/-- An image laid into the store from address `k` up; addresses the external bus does not answer for are skipped. -/
def loadImage : Nat → List Byte → Memory → Memory
  | _, [], m => m
  | k, v :: rest, m => loadImage (k + 1) rest (if externalAddr k then m.write k v else m)

/-- Construction with a ROM image and an optional boot-ROM image (R341, R345, D37): the only reset. The boot-ROM image, if
there is one, is what the external memory returns from 0x0000 up, and `BOOT_ROM` is then `simulated`. -/
def construct (cfg : Config) (rom : List Byte) (bootRom : Option (List Byte)) : State :=
  let s := State.powerOn { cfg with bootRom := if bootRom.isSome then .simulated else .bypassed }
  { s with mem := loadImage 0 (bootRom.getD []) (loadImage 0 rom s.mem) }

end Sys2Proof.Machine
end

