-- ==== Sys2Proof/Safety.lean ====
section
/-! DEFINITION. What counts as a well-kept state and as a safe run, in the terms statements use. -/

namespace Sys2Proof.Machine

/-- The invariant of the machine: the store is in canonical form and lists external addresses only (R71, R72), F's low nibble is
zero (R33), `inst_clocks` is at most 24 (R40), a faulted block has no instruction in flight (R289), and the HALT bug is never
pending in the Halted state (R261). -/
abbrev State.Inv (s : State) : Prop :=
  s.mem.wf = true ∧
  s.f &&& 0x0F#8 = 0x00#8 ∧
  s.instClocks ≤ 24 ∧
  (s.fault ≠ none → s.instClocks = 0) ∧
  (s.haltBug = true → s.isHalted = false)

/-- No fault has been recorded (R46). A run is safe while this holds: every tick then answers a next state. -/
abbrev State.Safe (s : State) : Prop := s.fault = none

/-- At a boundary: no instruction is in flight (R283). -/
abbrev State.AtBoundary (s : State) : Prop := s.instClocks = 0

/-- `k` ticks from `s` end in `t`. -/
abbrev RunsTo (k : Nat) (s t : State) : Prop := Sys2Proof.core.run k s = .next t

end Sys2Proof.Machine
end

