-- ==== Sys2Proof/Certificates/Slice0/Obligations.lean ====
section
/-! DEFINITION. The statements for the provers. The first part names what several statements share, written from the spec's own
tables and not from the model's operations: encoding fields, the byte F of four flags, an instruction's stored addresses. -/

namespace Sys2Proof.Spec

open Sys2Proof.Machine

/-! ## Encoding fields -/

/-- R104: the value of the register field. -/
def regField : Reg8 → BitVec 3
  | .b => 0
  | .c => 1
  | .d => 2
  | .e => 3
  | .h => 4
  | .l => 5
  | .a => 7

/-- R104: the value of the register field, 6 for the byte at HL. -/
def targetField : Target → BitVec 3
  | .reg r => regField r
  | .atHL => 6

/-- R105. -/
def pairField : Pair → BitVec 2
  | .bc => 0
  | .de => 1
  | .hl => 2
  | .sp => 3

/-- R106. -/
def stackField : StackPair → BitVec 2
  | .bc => 0
  | .de => 1
  | .hl => 2
  | .af => 3

/-- R107. -/
def condField : Cond → BitVec 2
  | .nz => 0
  | .z => 1
  | .nc => 2
  | .c => 3

/-- R108. -/
def aluField : AluOp → BitVec 3
  | .add => 0
  | .adc => 1
  | .sub => 2
  | .sbc => 3
  | .and => 4
  | .xor => 5
  | .or => 6
  | .cp => 7

/-- R109. -/
def rotField : RotOp → BitVec 3
  | .rlc => 0
  | .rrc => 1
  | .rl => 2
  | .rr => 3
  | .sla => 4
  | .sra => 5
  | .swap => 6
  | .srl => 7

/-- A byte printed `xx yyy zzz` (R112). -/
def pattern (x : BitVec 2) (y z : BitVec 3) : Byte := x ++ y ++ z

/-- A byte printed `xx ppq zzz` (R112). -/
def patternPair (x p : BitVec 2) (q : BitVec 1) (z : BitVec 3) : Byte := x ++ p ++ q ++ z

/-- A byte printed `xx kcc zzz` (R112). -/
def patternCond (x : BitVec 2) (k : BitVec 1) (cc : BitVec 2) (z : BitVec 3) : Byte := x ++ k ++ cc ++ z

/-- The bytes are exactly the instruction, whatever follows them. -/
def Encodes (bytes : List Byte) (i : Instr) : Prop := ∀ tail, decode (bytes ++ tail) = .ok (i, tail)

/-- The bytes of a 16-bit immediate, low byte first (R103). -/
def immBytes (nn : Word) : List Byte := [BitVec.ofNat 8 (nn.toNat % 256), BitVec.ofNat 8 (nn.toNat / 256)]

/-- The length that R100's table gives each first byte. -/
def formatLength (op : Byte) : Nat :=
  if op ∈ ([0x06, 0x0E, 0x16, 0x1E, 0x26, 0x2E, 0x36, 0x3E, 0xC6, 0xCE, 0xD6, 0xDE, 0xE6, 0xEE, 0xF6, 0xFE, 0xE0, 0xF0,
    0x10] : List Byte) then 2
  else if op ∈ ([0x18, 0x20, 0x28, 0x30, 0x38, 0xE8, 0xF8] : List Byte) then 2
  else if op ∈ ([0x01, 0x11, 0x21, 0x31, 0x08, 0xC2, 0xC3, 0xCA, 0xD2, 0xDA, 0xC4, 0xCC, 0xCD, 0xD4, 0xDC, 0xEA,
    0xFA] : List Byte) then 3
  else if op = 0xCB#8 then 2
  else 1

/-! ## Values -/

/-- F with the four flags given: Z is worth 128, N 64, H 32, C 16 (R34), the low nibble zero (R33). -/
def flagByte (z n h c : Bool) : Byte :=
  BitVec.ofNat 8 (128 * z.toNat + 64 * n.toNat + 32 * h.toNat + 16 * c.toNat)

/-- An ALU operation on A, by its operand form (R181). -/
def aluInstr (op : AluOp) : Operand8 → Instr
  | .reg r => .aluReg op (.reg r)
  | .atHL => .aluReg op .atHL
  | .imm n => .aluImm op n

/-- The bytes of an ALU operation (R181). -/
def aluBytes (op : AluOp) : Operand8 → List Byte
  | .reg r => [pattern 0b10 (aluField op) (regField r)]
  | .atHL => [pattern 0b10 (aluField op) 6]
  | .imm n => [pattern 0b11 (aluField op) 6, n]

/-- The value of the operand `S8`, read by `MemRead` at HL where it is the byte at HL (R181). -/
def operandValue (s : State) : Operand8 → Byte
  | .reg r => s.reg r
  | .atHL => (memRead s.hl s).1
  | .imm n => n

/-- The state after the operand `S8` is read (R181). -/
def operandState (s : State) : Operand8 → State
  | .reg _ => s
  | .atHL => (memRead s.hl s).2
  | .imm _ => s

/-- The cost of an ALU operation: 4 for a register, 8 for (HL) or n (R181). -/
def aluCost : Operand8 → Nat
  | .reg _ => 4
  | .atHL => 8
  | .imm _ => 8

/-- `Get(r)`, the value (R224). -/
def targetValue (s : State) : Target → Byte
  | .reg r => s.reg r
  | .atHL => (memRead s.hl s).1

/-- `Get(r)` then `Put(r, w)`: for (HL), one read then one write at HL (R224). -/
def targetPut (s : State) (w : Byte) : Target → State
  | .reg r => s.setReg r w
  | .atHL => memWrite s.hl w (memRead s.hl s).2

/-- The rotated or shifted value and the carry out, on numbers, `c` the carry before (R225 to R232). -/
def rotNat (op : RotOp) (v c : Nat) : Nat × Bool :=
  match op with
  | .rlc => ((2 * v) % 256 + v / 128, decide (128 ≤ v))
  | .rrc => (v / 2 + 128 * (v % 2), decide (v % 2 = 1))
  | .rl => ((2 * v) % 256 + c, decide (128 ≤ v))
  | .rr => (v / 2 + 128 * c, decide (v % 2 = 1))
  | .sla => ((2 * v) % 256, decide (128 ≤ v))
  | .sra => (v / 2 + 128 * (v / 128), decide (v % 2 = 1))
  | .swap => (16 * (v % 16) + v / 16, false)
  | .srl => (v / 2, decide (v % 2 = 1))

/-- DAA's algorithm on integers, as R194 writes it: the adjusted value before reduction, and the carry. -/
def daaInt (a : Int) (n h c : Bool) : Int × Bool :=
  if n then
    let a1 := if c then a - 0x60 else a
    (if h then a1 - 0x06 else a1, c)
  else
    let hi := c || decide (a > 0x99)
    let a1 := if hi then a + 0x60 else a
    (if h || decide (a1 % 16 > 9) then a1 + 0x06 else a1, hi)

/-- Two decimal digits as a BCD byte. -/
def bcd (x : Nat) : Byte := BitVec.ofNat 8 (16 * (x / 10) + x % 10)

/-- The timer period each TAC[1:0] selects (R300). -/
def period (tac : BitVec 3) : Nat :=
  if tac.toNat % 4 = 0 then 1024 else if tac.toNat % 4 = 1 then 16 else if tac.toNat % 4 = 2 then 64 else 256

/-- `n` bytes read by `MemRead` at successive addresses from `addr`, and the state after the last. -/
def readBytes : Nat → Word → State → List Byte × State
  | 0, _, s => ([], s)
  | n + 1, addr, s =>
    let r := memRead addr s
    let more := readBytes n (addr + 1#16) r.2
    (r.1 :: more.1, more.2)

/-! ## What an instruction stores to and writes -/

/-- The addresses an instruction stores to, in the state it starts in. -/
def storedAddresses (i : Instr) (s : State) : List Word :=
  match i with
  | .ldAtHLB | .ldAtHLC | .ldAtHLD | .ldAtHLE | .ldAtHLH | .ldAtHLL | .ldAtHLA | .ldAtHLN _ => [s.hl]
  | .ldAtHLIncA | .ldAtHLDecA | .incAtHL | .decAtHL => [s.hl]
  | .ldAtBCA => [s.bc]
  | .ldAtDEA => [s.de]
  | .ldAtNnA nn => [nn]
  | .ldhAtNA n => [highPage n]
  | .ldAtCA => [highPage s.c]
  | .ldAtNnSP nn => [nn, nn + 1#16]
  | .pushBC | .pushDE | .pushHL | .pushAF => [s.sp - 1#16, s.sp - 2#16]
  | .callNn _ => [s.sp - 1#16, s.sp - 2#16]
  | .callNZNn _ => if condHolds .nz s then [s.sp - 1#16, s.sp - 2#16] else []
  | .callZNn _ => if condHolds .z s then [s.sp - 1#16, s.sp - 2#16] else []
  | .callNCNn _ => if condHolds .nc s then [s.sp - 1#16, s.sp - 2#16] else []
  | .callCNn _ => if condHolds .c s then [s.sp - 1#16, s.sp - 2#16] else []
  | .rst00H | .rst08H | .rst10H | .rst18H | .rst20H | .rst28H | .rst30H | .rst38H => [s.sp - 1#16, s.sp - 2#16]
  | .rlcAtHL | .rrcAtHL | .rlAtHL | .rrAtHL | .slaAtHL | .sraAtHL | .swapAtHL | .srlAtHL => [s.hl]
  | .res0AtHL | .res1AtHL | .res2AtHL | .res3AtHL | .res4AtHL | .res5AtHL | .res6AtHL | .res7AtHL => [s.hl]
  | .set0AtHL | .set1AtHL | .set2AtHL | .set3AtHL | .set4AtHL | .set5AtHL | .set6AtHL | .set7AtHL => [s.hl]
  | .prefixCB cb => if cb.toNat % 8 = 6 ∧ cb.toNat / 64 ≠ 1 then [s.hl] else []
  | _ => []

/-- The halves of a pair that are 8-bit registers (R31). -/
def halves : Pair → List Reg8
  | .bc => [.b, .c]
  | .de => [.d, .e]
  | .hl => [.h, .l]
  | .sp => []

/-- The halves that `POP rr` writes. -/
def poppedHalves : StackPair → List Reg8
  | .bc => [.b, .c]
  | .de => [.d, .e]
  | .hl => [.h, .l]
  | .af => [.a]

/-- The 8-bit registers each instruction writes, family by family. -/
inductive Writes : Instr → Reg8 → Prop where
  | ldRegReg (r src : Reg8) : Writes (.ldRegReg r src) r
  | ldRegImm (r : Reg8) (n : Byte) : Writes (.ldRegImm r n) r
  | ldRegAtHL (r : Reg8) : Writes (.ldRegAtHL r) r
  | ldAAtBC : Writes .ldAAtBC .a
  | ldAAtDE : Writes .ldAAtDE .a
  | ldAAtNn (nn : Word) : Writes (.ldAAtNn nn) .a
  | ldhAAtN (n : Byte) : Writes (.ldhAAtN n) .a
  | ldAAtC : Writes .ldAAtC .a
  | ldAAtHLInc (r : Reg8) (h : r = .a ∨ r ∈ halves .hl) : Writes .ldAAtHLInc r
  | ldAAtHLDec (r : Reg8) (h : r = .a ∨ r ∈ halves .hl) : Writes .ldAAtHLDec r
  | ldAtHLIncA (r : Reg8) (h : r ∈ halves .hl) : Writes .ldAtHLIncA r
  | ldAtHLDecA (r : Reg8) (h : r ∈ halves .hl) : Writes .ldAtHLDecA r
  | ldPairImm (p : Pair) (nn : Word) (r : Reg8) (h : r ∈ halves p) : Writes (.ldPairImm p nn) r
  | ldHLSPE (e : Byte) (r : Reg8) (h : r ∈ halves .hl) : Writes (.ldHLSPE e) r
  | pop (p : StackPair) (r : Reg8) (h : r ∈ poppedHalves p) : Writes (.pop p) r
  | aluReg (op : AluOp) (t : Target) (h : op ≠ .cp) : Writes (.aluReg op t) .a
  | aluImm (op : AluOp) (n : Byte) (h : op ≠ .cp) : Writes (.aluImm op n) .a
  | incReg (r : Reg8) : Writes (.incReg r) r
  | decReg (r : Reg8) : Writes (.decReg r) r
  | daa : Writes .daa .a
  | cpl : Writes .cpl .a
  | addHLPair (p : Pair) (r : Reg8) (h : r ∈ halves .hl) : Writes (.addHLPair p) r
  | incPair (p : Pair) (r : Reg8) (h : r ∈ halves p) : Writes (.incPair p) r
  | decPair (p : Pair) (r : Reg8) (h : r ∈ halves p) : Writes (.decPair p) r
  | rlca : Writes .rlca .a
  | rrca : Writes .rrca .a
  | rla : Writes .rla .a
  | rra : Writes .rra .a
  | rotate (op : RotOp) (r : Reg8) : Writes (.rotate op (.reg r)) r
  | res (b : Fin 8) (r : Reg8) : Writes (.res b (.reg r)) r
  | set (b : Fin 8) (r : Reg8) : Writes (.set b (.reg r)) r
  | prefixCB (cb : Byte) (r : Reg8) (h : Writes (cbInstr cb) r) : Writes (.prefixCB cb) r

/-- The instructions that write SP (R36). -/
inductive WritesSP : Instr → Prop where
  | ldPairImm (nn : Word) : WritesSP (.ldPairImm .sp nn)
  | ldSPHL : WritesSP .ldSPHL
  | addSPE (e : Byte) : WritesSP (.addSPE e)
  | incPair : WritesSP (.incPair .sp)
  | decPair : WritesSP (.decPair .sp)
  | push (p : StackPair) : WritesSP (.push p)
  | pop (p : StackPair) : WritesSP (.pop p)
  | callNn (nn : Word) : WritesSP (.callNn nn)
  | callCond (cc : Cond) (nn : Word) : WritesSP (.callCond cc nn)
  | ret : WritesSP .ret
  | retCond (cc : Cond) : WritesSP (.retCond cc)
  | reti : WritesSP .reti
  | rst (t : Fin 8) : WritesSP (.rst t)

/-- The instructions of R35's table: those that write some flag. -/
inductive WritesFlags : Instr → Prop where
  | aluReg (op : AluOp) (t : Target) : WritesFlags (.aluReg op t)
  | aluImm (op : AluOp) (n : Byte) : WritesFlags (.aluImm op n)
  | incReg (r : Reg8) : WritesFlags (.incReg r)
  | decReg (r : Reg8) : WritesFlags (.decReg r)
  | incAtHL : WritesFlags .incAtHL
  | decAtHL : WritesFlags .decAtHL
  | daa : WritesFlags .daa
  | cpl : WritesFlags .cpl
  | scf : WritesFlags .scf
  | ccf : WritesFlags .ccf
  | addHLPair (p : Pair) : WritesFlags (.addHLPair p)
  | addSPE (e : Byte) : WritesFlags (.addSPE e)
  | ldHLSPE (e : Byte) : WritesFlags (.ldHLSPE e)
  | popAF : WritesFlags .popAF
  | rlca : WritesFlags .rlca
  | rrca : WritesFlags .rrca
  | rla : WritesFlags .rla
  | rra : WritesFlags .rra
  | rotate (op : RotOp) (t : Target) : WritesFlags (.rotate op t)
  | bit (b : Fin 8) (t : Target) : WritesFlags (.bit b t)
  | prefixCB (cb : Byte) (h : cb.toNat / 64 ≤ 1) : WritesFlags (.prefixCB cb)

/-- The state a boundary tick works on once the requester has moved, step 1 has run and the wake is done (R281, R284). -/
def boundaryState (s : State) : State := wake (timerStep (requesterMove s))

/-- `s` is at a boundary whose tick fetches (R283): no fault, nothing in flight, no dispatch, not halted after the wake. -/
def FetchesNow (s : State) : Prop :=
  s.fault = none ∧ s.instClocks = 0 ∧ (boundaryState s).isHalted = false ∧
    ¬(s.ime = true ∧ pending (boundaryState s) ≠ 0#5)

/-- `i` raises a fault instead of completing (R289): an invalid byte, or STOP under `STOP_MODE = refuse`. -/
def RaisesFault (i : Instr) (s : State) : Prop :=
  (∃ b, (b, i) ∈ invalidBytes) ∨ ((∃ n, i = .stop n) ∧ s.cfg.stopMode = .refuse)

/-- An outcome that ends a multi-tick call (R310). -/
def Ends (o : EntryOutcome) : Prop := o = .fault ∨ o = .stuck ∨ o = .breakpointHit

/-- `k` ticks from `s`, each followed by the breakpoint check, end in `t`, and none of them ends a multi-tick call: each returned
Continued or an unmatched Boundary (R310). -/
def GoesOn : Nat → State → State → Prop
  | 0, s, t => t = s
  | k + 1, s, t => ∃ (o : EntryOutcome) (u : State),
      tickChecked s = (o, u) ∧ (o = .continued ∨ o = .boundary) ∧ GoesOn k u t

end Sys2Proof.Spec

open Sys2Proof Sys2Proof.Machine Sys2Proof.Spec

/-! ## Encoding -/

/-- Every instruction's bytes decode to it, with every operand at every value and whatever bytes follow (R100 to R115). -/
def Obligations.DecodeOfEncode : Prop :=
  ∀ (i : Instr) (tail : List Byte), i.WellFormed → decode (encode i ++ tail) = .ok (i, tail)

/-- What decodes is a well-formed instruction, and the bytes it was read from are its encoding (R115). -/
def Obligations.EncodeOfDecode : Prop :=
  ∀ (bytes : List Byte) (i : Instr) (rest : List Byte),
    decode bytes = .ok (i, rest) → i.WellFormed ∧ bytes = encode i ++ rest

/-- R100: an instruction is 1, 2 or 3 bytes and its length is decided by its first byte alone, as R100's table lists the
first bytes; a list of bytes is refused only where it is shorter than that. -/
def Obligations.LengthFromFirstByte : Prop :=
  decode [] = .error .truncated ∧
  ∀ (op : Byte) (rest : List Byte),
    1 ≤ formatLength op ∧ formatLength op ≤ 3 ∧
    (rest.length + 1 < formatLength op → decode (op :: rest) = .error .truncated) ∧
    (formatLength op ≤ rest.length + 1 →
      ∃ i, decode (op :: rest) = .ok (i, rest.drop (formatLength op - 1)))

/-- Words written out from 30_encoding.md and the rules' own examples decode to their instructions. -/
def Obligations.SampleWordsDecode : Prop :=
  decode [0x41#8] = .ok (.ldBC, []) ∧
  decode [0x3E#8, 0x14#8] = .ok (.ldAN 0x14#8, []) ∧
  decode [0x31#8, 0xFE#8, 0xFF#8] = .ok (.ldSPNn 0xFFFE#16, []) ∧
  decode [0x08#8, 0x00#8, 0xC1#8] = .ok (.ldAtNnSP 0xC100#16, []) ∧
  decode [0x93#8] = .ok (.subAE, []) ∧
  decode [0xEE#8, 0x0F#8] = .ok (.xorAN 0x0F#8, []) ∧
  decode [0x39#8] = .ok (.addHLSP, []) ∧
  decode [0xCB#8, 0x37#8] = .ok (.swapA, []) ∧
  decode [0xCB#8, 0x7E#8] = .ok (.bit7AtHL, []) ∧
  decode [0xDC#8, 0x34#8, 0x12#8] = .ok (.callCNn 0x1234#16, []) ∧
  decode [0x20#8, 0xFB#8] = .ok (.jrNZE 0xFB#8, []) ∧
  decode [0xEF#8] = .ok (.rst28H, []) ∧
  decode [0x10#8, 0x00#8] = .ok (.stop 0x00#8, []) ∧
  decode [0xD3#8] = .ok (.invalidD3, [])

/-! ## Registers, memory and the bus -/

/-- R31, R32: a pair's high byte is its first-named register (F read with its low nibble zero, R33), and a half and its pair are
one storage. -/
def Obligations.PairsAndHalvesAreOneStorage : Prop :=
  ∀ (s : State) (v : Word) (w : Byte),
    s.af.toNat = 256 * s.a.toNat + (s.f &&& 0xF0#8).toNat ∧ (s.setReg .a w).af = w ++ (s.f &&& 0xF0#8) ∧
    s.bc.toNat = 256 * s.b.toNat + s.c.toNat ∧ s.de.toNat = 256 * s.d.toNat + s.e.toNat ∧
    s.hl.toNat = 256 * s.h.toNat + s.l.toNat ∧
    (∀ p, (s.setPair p v).pair p = v) ∧ (∀ p q, p ≠ q → (s.setPair p v).pair q = s.pair q) ∧
    (∀ r, (s.setReg r w).reg r = w) ∧ (∀ r q, r ≠ q → (s.setReg r w).reg q = s.reg q) ∧
    (s.setReg .b w).bc = w ++ s.c ∧ (s.setReg .c w).bc = s.b ++ w ∧
    (s.setReg .d w).de = w ++ s.e ∧ (s.setReg .e w).de = s.d ++ w ∧
    (s.setReg .h w).hl = w ++ s.l ∧ (s.setReg .l w).hl = s.h ++ w

/-- R33, R34: Z, N, H, C are F's bits 7 to 4, every write to F stores its low nibble zero, and AF mirrors the flags. -/
def Obligations.FlagsAreTheTopNibbleOfF : Prop :=
  (∀ (s : State) (z n h c : Bool),
    (s.setFlags { z := z, n := n, h := h, c := c }).f = flagByte z n h c ∧
    (s.setFlags { z := z, n := n, h := h, c := c }).flags = { z := z, n := n, h := h, c := c }) ∧
  (∀ (s : State) (v : Word),
    (s.setAF v).a = v.extractLsb' 8 8 ∧ (s.setAF v).f = v.extractLsb' 0 8 &&& 0xF0#8) ∧
  (∀ s : State, s.af.extractLsb' 0 8 = flagByte s.flags.z s.flags.n s.flags.h s.flags.c)

/-- R72: `MemRead` answers each in-block register at its address, with no effect, and the external bus everywhere else.
Where the six registers live and what their unused bits read is the spec's own decision (D6, D24). -/
def Obligations.MemReadByAddress : Prop :=
  ∀ s : State,
    memRead 0xFF04#16 s = (s.divcnt.extractLsb' 8 8, s) ∧
    memRead 0xFF05#16 s = (s.tima, s) ∧
    memRead 0xFF06#16 s = (s.tma, s) ∧
    memRead 0xFF07#16 s = (0xF8#8 ||| s.tac.setWidth 8, s) ∧
    memRead 0xFF0F#16 s = (0xE0#8 ||| s.ifr.setWidth 8, s) ∧
    memRead 0xFFFF#16 s = (s.ie, s) ∧
    ∀ addr : Word, addr ∉ [0xFF04#16, 0xFF05#16, 0xFF06#16, 0xFF07#16, 0xFF0F#16, 0xFFFF#16] →
      memRead addr s = extRead addr s

/-- R73: `MemWrite` changes each in-block register at its address as the rule says, and else delivers the byte to the bus.
Where the six registers live and what a write to each does is the spec's own decision (D6, D17, D24). -/
def Obligations.MemWriteByAddress : Prop :=
  ∀ (s : State) (v : Byte),
    memWrite 0xFF04#16 v s = { s with divcnt := 0#16 } ∧
    memWrite 0xFF05#16 v s = { s with tima := v } ∧
    memWrite 0xFF06#16 v s = { s with tma := v } ∧
    memWrite 0xFF07#16 v s = { s with tac := v.extractLsb' 0 3 } ∧
    memWrite 0xFF0F#16 v s = { s with ifr := v.extractLsb' 0 5 } ∧
    memWrite 0xFFFF#16 v s = { s with ie := v } ∧
    ∀ addr : Word, addr ∉ [0xFF04#16, 0xFF05#16, 0xFF06#16, 0xFF07#16, 0xFF0F#16, 0xFFFF#16] →
      memWrite addr v s = extWrite addr v s

/-- The model's bus, where no answer is scripted (notes/assumptions/1.md and 2.md): a read gives back what was last written, but
for the unused bits of TAC and IF, which read 1, and DIV, which a write clears (R293, R296, R300); no other address changes. -/
def Obligations.ReadAfterWrite : Prop :=
  ∀ (s : State) (addr : Word) (v : Byte), s.mem.wf = true → s.busAnswers = [] →
    (memRead addr (memWrite addr v s)).1 =
      (if addr = 0xFF04#16 then 0x00#8
       else if addr = 0xFF07#16 then 0xF8#8 ||| v
       else if addr = 0xFF0F#16 then 0xE0#8 ||| v
       else v) ∧
    ∀ x : Word, x ≠ addr → (memWrite addr v s).peek x = s.peek x

/-- R74: while an answer is scripted an external read gives that answer, whatever was written there, and takes it; the bus sees
the read, and nothing else of the machine changes.
The oracle is the spec's decision D7; the script is the model's form of it (notes/assumptions/2.md). -/
def Obligations.ExternalReadIsTheOracle : Prop :=
  ∀ (s : State) (addr : Word) (answer : Byte) (later : List Byte),
    addr ∉ [0xFF04#16, 0xFF05#16, 0xFF06#16, 0xFF07#16, 0xFF0F#16, 0xFFFF#16] →
    s.busAnswers = answer :: later →
    memRead addr s = (answer, { s with busAnswers := later, busEvents := .read addr answer :: s.busEvents })

/-! ## Frames of every instruction -/

/-- No instruction changes a byte of memory outside the addresses it stores to (every byte, in-block registers included). -/
def Obligations.MemoryFrame : Prop :=
  ∀ (i : Instr) (s t : State), exec i s = .next t →
    ∀ x : Word, x ∉ storedAddresses i s → t.peek x = s.peek x

/-- No instruction changes an 8-bit register it does not write, nor SP unless it is one of R36's. -/
def Obligations.RegisterFrame : Prop :=
  ∀ (i : Instr) (s t : State), exec i s = .next t →
    (∀ r, ¬Writes i r → t.reg r = s.reg r) ∧ (¬WritesSP i → t.sp = s.sp)

/-- R35's last sentence: an instruction that is not in its table leaves all of F unchanged. -/
def Obligations.FlagFrame : Prop :=
  ∀ (i : Instr) (s t : State), exec i s = .next t → ¬WritesFlags i → t.f = s.f

/-- R41 to R44, R46, R48, R49: which instructions change the execution state, and that the timer and interrupt registers
change by a store to their address alone. What only the scheduler, the orchestrator or an agent writes no instruction
changes. -/
def Obligations.ExecutionStateFrame : Prop :=
  ∀ (i : Instr) (s t : State), exec i s = .next t →
    (i ≠ .di → i ≠ .reti → t.ime = s.ime) ∧
    (i ≠ .ei → t.eiImeEnable = s.eiImeEnable) ∧
    (i ≠ .halt → t.haltBug = s.haltBug) ∧
    (i ≠ .halt → (∀ n, i ≠ .stop n) → t.isHalted = s.isHalted) ∧
    ((∀ n, i ≠ .stop n) → (∀ b, (b, i) ∉ invalidBytes) → t.fault = s.fault) ∧
    (0xFF04#16 ∉ storedAddresses i s → t.divcnt = s.divcnt) ∧
    (0xFF05#16 ∉ storedAddresses i s → t.tima = s.tima) ∧
    (0xFF06#16 ∉ storedAddresses i s → t.tma = s.tma) ∧
    (0xFF07#16 ∉ storedAddresses i s → t.tac = s.tac) ∧
    (0xFF0F#16 ∉ storedAddresses i s → t.ifr = s.ifr) ∧
    (0xFFFF#16 ∉ storedAddresses i s → t.ie = s.ie) ∧
    t.opAddr = s.opAddr ∧ t.requests = s.requests ∧ t.bpAddr = s.bpAddr ∧ t.bpEnabled = s.bpEnabled ∧ t.cfg = s.cfg

/-- R265, R288, R289, R355: every instruction's meaning answers a next state, from every state. The eleven invalid bytes and STOP
under `STOP_MODE = refuse` do not complete and have no cost: their next state is the state before with a fault recorded and
nothing else changed. Every other instruction completes: it records no fault and returns a cost that is a multiple of 4 from 4
to 24.
That the tick which faults answers a next state, with the record in it, is the model's reading of R281 and R289
(notes/assumptions/10.md). -/
def Obligations.EveryInstructionAnswersNext : Prop :=
  ∀ (i : Instr) (s : State),
    (RaisesFault i s → ∃ record, exec i s = .next { s with fault := some record }) ∧
    (¬RaisesFault i s → ∃ t, exec i s = .next t ∧ t.fault = s.fault ∧
      t.instClocks % 4 = 0 ∧ 4 ≤ t.instClocks ∧ t.instClocks ≤ 24)

/-! ## Loads, stores and stack transfers -/

/-- R141, R142, R160, R162: register, immediate and 16-bit immediate loads. -/
def Obligations.RegisterAndImmediateLoads : Prop :=
  (∀ (r src : Reg8) (s : State),
    Encodes [pattern 0b01 (regField r) (regField src)] (.ldRegReg r src) ∧
    exec (.ldRegReg r src) s = .next { s.setReg r (s.reg src) with instClocks := 4 }) ∧
  (∀ (r : Reg8) (n : Byte) (s : State),
    Encodes [pattern 0b00 (regField r) 0b110, n] (.ldRegImm r n) ∧
    exec (.ldRegImm r n) s = .next { s.setReg r n with instClocks := 8 }) ∧
  (∀ (p : Pair) (nn : Word) (s : State),
    Encodes (patternPair 0b00 (pairField p) 0 0b001 :: immBytes nn) (.ldPairImm p nn) ∧
    exec (.ldPairImm p nn) s = .next { s.setPair p nn with instClocks := 12 }) ∧
  (∀ s : State,
    Encodes [0xF9#8] .ldSPHL ∧ exec .ldSPHL s = .next { s with sp := s.hl, instClocks := 8 })

/-- R143, R146, R147, R150, R152, R154: a register gets the byte `MemRead` answers, at the address the old registers give. -/
def Obligations.ByteLoadsFromMemory : Prop :=
  ∀ (s : State) (r : Reg8) (n : Byte) (nn : Word),
    (Encodes [pattern 0b01 (regField r) 0b110] (.ldRegAtHL r) ∧
      exec (.ldRegAtHL r) s = .next { (memRead s.hl s).2.setReg r (memRead s.hl s).1 with instClocks := 8 }) ∧
    (Encodes [0x0A#8] .ldAAtBC ∧
      exec .ldAAtBC s = .next { (memRead s.bc s).2 with a := (memRead s.bc s).1, instClocks := 8 }) ∧
    (Encodes [0x1A#8] .ldAAtDE ∧
      exec .ldAAtDE s = .next { (memRead s.de s).2 with a := (memRead s.de s).1, instClocks := 8 }) ∧
    (Encodes (0xFA#8 :: immBytes nn) (.ldAAtNn nn) ∧
      exec (.ldAAtNn nn) s = .next { (memRead nn s).2 with a := (memRead nn s).1, instClocks := 16 }) ∧
    (Encodes [0xF0#8, n] (.ldhAAtN n) ∧
      exec (.ldhAAtN n) s =
        .next { (memRead (0xFF00#16 + n.setWidth 16) s).2 with
          a := (memRead (0xFF00#16 + n.setWidth 16) s).1, instClocks := 12 }) ∧
    (Encodes [0xF2#8] .ldAAtC ∧
      exec .ldAAtC s =
        .next { (memRead (0xFF00#16 + s.c.setWidth 16) s).2 with
          a := (memRead (0xFF00#16 + s.c.setWidth 16) s).1, instClocks := 8 })

/-- R144, R145, R148, R149, R151, R153, R155: a byte is stored at the address the registers or the instruction give. -/
def Obligations.ByteStoresToMemory : Prop :=
  ∀ (s : State) (r : Reg8) (n : Byte) (nn : Word),
    (Encodes [pattern 0b01 0b110 (regField r)] (.ldAtHLReg r) ∧
      exec (.ldAtHLReg r) s = .next { memWrite s.hl (s.reg r) s with instClocks := 8 }) ∧
    (Encodes [0x36#8, n] (.ldAtHLN n) ∧
      exec (.ldAtHLN n) s = .next { memWrite s.hl n s with instClocks := 12 }) ∧
    (Encodes [0x02#8] .ldAtBCA ∧ exec .ldAtBCA s = .next { memWrite s.bc s.a s with instClocks := 8 }) ∧
    (Encodes [0x12#8] .ldAtDEA ∧ exec .ldAtDEA s = .next { memWrite s.de s.a s with instClocks := 8 }) ∧
    (Encodes (0xEA#8 :: immBytes nn) (.ldAtNnA nn) ∧
      exec (.ldAtNnA nn) s = .next { memWrite nn s.a s with instClocks := 16 }) ∧
    (Encodes [0xE0#8, n] (.ldhAtNA n) ∧
      exec (.ldhAtNA n) s = .next { memWrite (0xFF00#16 + n.setWidth 16) s.a s with instClocks := 12 }) ∧
    (Encodes [0xE2#8] .ldAtCA ∧
      exec .ldAtCA s = .next { memWrite (0xFF00#16 + s.c.setWidth 16) s.a s with instClocks := 8 })

/-- R156 to R159: the access is at the old HL, and HL then goes up or down by one, wrapping. -/
def Obligations.SteppingLoadsAndStores : Prop :=
  ∀ s : State,
    (Encodes [0x22#8] .ldAtHLIncA ∧
      exec .ldAtHLIncA s = .next { (memWrite s.hl s.a s).setHL (s.hl + 1#16) with instClocks := 8 }) ∧
    (Encodes [0x2A#8] .ldAAtHLInc ∧
      exec .ldAAtHLInc s =
        .next { ((memRead s.hl s).2.setHL (s.hl + 1#16)) with a := (memRead s.hl s).1, instClocks := 8 }) ∧
    (Encodes [0x32#8] .ldAtHLDecA ∧
      exec .ldAtHLDecA s = .next { (memWrite s.hl s.a s).setHL (s.hl - 1#16) with instClocks := 8 }) ∧
    (Encodes [0x3A#8] .ldAAtHLDec ∧
      exec .ldAAtHLDec s =
        .next { ((memRead s.hl s).2.setHL (s.hl - 1#16)) with a := (memRead s.hl s).1, instClocks := 8 })

/-- R161: SP is stored low byte first, high byte at the next address mod 2^16. R163: HL gets SP plus the signed offset, with Z
and N clear and H and C the carries out of bits 3 and 7 of the unsigned byte add; SP is unchanged.
The order of R161's two writes is the spec's decision (D4, D32). -/
def Obligations.StackPointerStoreAndOffsetLoad : Prop :=
  (∀ (s : State) (nn : Word),
    Encodes (0x08#8 :: immBytes nn) (.ldAtNnSP nn) ∧
    exec (.ldAtNnSP nn) s =
      .next { memWrite (nn + 1#16) (s.sp.extractLsb' 8 8) (memWrite nn (s.sp.extractLsb' 0 8) s) with
        instClocks := 20 }) ∧
  (∀ (s : State) (e : Byte),
    Encodes [0xF8#8, e] (.ldHLSPE e) ∧
    exec (.ldHLSPE e) s =
      .next { s.setHL (s.sp + e.signExtend 16) with
        f := flagByte false false (decide (s.sp.toNat % 16 + e.toNat % 16 > 15))
          (decide (s.sp.toNat % 256 + e.toNat > 255))
        instClocks := 12 })

/-- R164 to R166: PUSH stores the high byte at SP-1, then the low byte at SP-2; POP reads the low byte at SP, then the high byte
at SP+1; POP AF forces F's low nibble to zero.
The order of the two accesses is the spec's decision (D4, D32). -/
def Obligations.PushAndPop : Prop :=
  (∀ (p : StackPair) (s : State),
    Encodes [patternPair 0b11 (stackField p) 0 0b101] (.push p) ∧
    exec (.push p) s =
      .next { memWrite (s.sp - 2#16) ((s.stackPair p).extractLsb' 0 8)
          (memWrite (s.sp - 1#16) ((s.stackPair p).extractLsb' 8 8) s) with
        sp := s.sp - 2#16, instClocks := 16 }) ∧
  (∀ (p : StackPair) (s : State),
    let lo := memRead s.sp s
    let hi := memRead (s.sp + 1#16) lo.2
    Encodes [patternPair 0b11 (stackField p) 0 0b001] (.pop p) ∧
    exec (.pop p) s =
      .next (match p with
        | .bc => { hi.2 with b := hi.1, c := lo.1, sp := s.sp + 2#16, instClocks := 12 }
        | .de => { hi.2 with d := hi.1, e := lo.1, sp := s.sp + 2#16, instClocks := 12 }
        | .hl => { hi.2 with h := hi.1, l := lo.1, sp := s.sp + 2#16, instClocks := 12 }
        | .af => { hi.2 with a := hi.1, f := lo.1 &&& 0xF0#8, sp := s.sp + 2#16, instClocks := 12 }))

/-- A pair pushed and popped again comes back, and SP with it, where both stack bytes are plain memory and no answer is
scripted (the model's store, notes/assumptions/2.md); AF comes back with F's low nibble zero. -/
def Obligations.PopAfterPushRestores : Prop :=
  ∀ (p q : StackPair) (s t u : State), s.mem.wf = true → s.busAnswers = [] →
    ioRegAt (s.sp - 1#16) = none → ioRegAt (s.sp - 2#16) = none →
    exec (.push p) s = .next t → exec (.pop q) t = .next u →
    u.stackPair q = (match q with | .af => s.stackPair p &&& 0xFFF0#16 | _ => s.stackPair p) ∧ u.sp = s.sp

/-! ## 8-bit arithmetic and logic -/

/-- R182, R183: A gets the sum mod 256; H and C are the carries out of bits 3 and 7 (R180's closed forms), N is clear. -/
def Obligations.AdditionResultAndFlags : Prop :=
  ∀ (o : Operand8) (s : State),
    let b := (operandValue s o).toNat
    let a := s.a.toNat
    let c := s.flags.c.toNat
    (Encodes (aluBytes .add o) (aluInstr .add o) ∧
      exec (aluInstr .add o) s =
        .next { operandState s o with
          a := BitVec.ofNat 8 (a + b)
          f := flagByte (decide ((a + b) % 256 = 0)) false (decide (a % 16 + b % 16 > 15)) (decide (a + b > 255))
          instClocks := aluCost o }) ∧
    (Encodes (aluBytes .adc o) (aluInstr .adc o) ∧
      exec (aluInstr .adc o) s =
        .next { operandState s o with
          a := BitVec.ofNat 8 (a + b + c)
          f := flagByte (decide ((a + b + c) % 256 = 0)) false (decide (a % 16 + b % 16 + c > 15))
            (decide (a + b + c > 255))
          instClocks := aluCost o })

/-- R184, R185, R189: the difference mod 256; H and C are the borrows (R180's closed forms), N is set; CP writes no A. -/
def Obligations.SubtractionAndCompare : Prop :=
  ∀ (o : Operand8) (s : State),
    let b := (operandValue s o).toNat
    let a := s.a.toNat
    let c := s.flags.c.toNat
    (Encodes (aluBytes .sub o) (aluInstr .sub o) ∧
      exec (aluInstr .sub o) s =
        .next { operandState s o with
          a := BitVec.ofInt 8 (a - b)
          f := flagByte (decide (a = b)) true (decide (a % 16 < b % 16)) (decide (a < b))
          instClocks := aluCost o }) ∧
    (Encodes (aluBytes .sbc o) (aluInstr .sbc o) ∧
      exec (aluInstr .sbc o) s =
        .next { operandState s o with
          a := BitVec.ofInt 8 (a - b - c)
          f := flagByte (decide (((a : Int) - b - c) % 256 = 0)) true (decide (a % 16 < b % 16 + c)) (decide (a < b + c))
          instClocks := aluCost o }) ∧
    (Encodes (aluBytes .cp o) (aluInstr .cp o) ∧
      exec (aluInstr .cp o) s =
        .next { operandState s o with
          f := flagByte (decide (a = b)) true (decide (a % 16 < b % 16)) (decide (a < b))
          instClocks := aluCost o })

/-- R186 to R188: bitwise AND, XOR and OR into A; Z from the result, N and C clear, H set by AND and clear otherwise. -/
def Obligations.LogicResultAndFlags : Prop :=
  ∀ (o : Operand8) (s : State),
    (Encodes (aluBytes .and o) (aluInstr .and o) ∧
      exec (aluInstr .and o) s =
        .next { operandState s o with
          a := s.a &&& operandValue s o
          f := flagByte (decide (s.a &&& operandValue s o = 0)) false true false
          instClocks := aluCost o }) ∧
    (Encodes (aluBytes .xor o) (aluInstr .xor o) ∧
      exec (aluInstr .xor o) s =
        .next { operandState s o with
          a := s.a ^^^ operandValue s o
          f := flagByte (decide (s.a = operandValue s o)) false false false
          instClocks := aluCost o }) ∧
    (Encodes (aluBytes .or o) (aluInstr .or o) ∧
      exec (aluInstr .or o) s =
        .next { operandState s o with
          a := s.a ||| operandValue s o
          f := flagByte (decide (s.a ||| operandValue s o = 0)) false false false
          instClocks := aluCost o })

/-- R190 to R193: INC and DEC of a register (cost 4) and of the byte at HL (one read, one write, cost 12); C is kept. -/
def Obligations.IncrementAndDecrementByte : Prop :=
  ∀ (t : Target) (s : State),
    let v := (targetValue s t).toNat
    let cost := match t with | .reg _ => 4 | .atHL => 12
    let inc := match t with | .reg r => Instr.incReg r | .atHL => .incAtHL
    let dec := match t with | .reg r => Instr.decReg r | .atHL => .decAtHL
    (Encodes [pattern 0b00 (targetField t) 0b100] inc ∧
      exec inc s =
        .next { targetPut s (BitVec.ofNat 8 (v + 1)) t with
          f := flagByte (decide (v = 255)) false (decide (v % 16 = 15)) s.flags.c
          instClocks := cost }) ∧
    (Encodes [pattern 0b00 (targetField t) 0b101] dec ∧
      exec dec s =
        .next { targetPut s (BitVec.ofNat 8 (v + 255)) t with
          f := flagByte (decide (v = 1)) true (decide (v % 16 = 0)) s.flags.c
          instClocks := cost })

/-- R194: DAA is the rule's algorithm on integers, reduced mod 256; N is kept, H cleared. -/
def Obligations.DecimalAdjustAlgorithm : Prop :=
  ∀ s : State,
    let r := daaInt s.a.toNat s.flags.n s.flags.h s.flags.c
    Encodes [0x27#8] .daa ∧
    exec .daa s =
      .next { s with
        a := BitVec.ofInt 8 r.1
        f := flagByte (decide (r.1 % 256 = 0)) s.flags.n false r.2
        instClocks := 4 }

/-- R194: after ADD or SUB of two BCD bytes, DAA leaves the two decimal digits of the sum or difference, and C says that it
passed 99 or went below 0. -/
def Obligations.DecimalAdjustGivesDecimalDigits : Prop :=
  ∀ (x y : Nat) (s : State), x < 100 → y < 100 → s.a = bcd x →
    (∃ t u, exec (.addAN (bcd y)) s = .next t ∧ exec .daa t = .next u ∧
      u.a = bcd ((x + y) % 100) ∧ u.flags.c = decide (x + y ≥ 100)) ∧
    (∃ t u, exec (.subAN (bcd y)) s = .next t ∧ exec .daa t = .next u ∧
      u.a = bcd ((x + 100 - y) % 100) ∧ u.flags.c = decide (x < y))

/-- R195 to R197: CPL complements A and sets N and H; SCF sets C and CCF complements it, both clearing N and H; the other flags
are kept. -/
def Obligations.ComplementAndCarryOperations : Prop :=
  ∀ s : State,
    (Encodes [0x2F#8] .cpl ∧
      exec .cpl s =
        .next { s with
          a := BitVec.ofNat 8 (255 - s.a.toNat), f := flagByte s.flags.z true true s.flags.c, instClocks := 4 }) ∧
    (Encodes [0x37#8] .scf ∧
      exec .scf s = .next { s with f := flagByte s.flags.z false false true, instClocks := 4 }) ∧
    (Encodes [0x3F#8] .ccf ∧
      exec .ccf s = .next { s with f := flagByte s.flags.z false false (!s.flags.c), instClocks := 4 })

/-- R198: ADD then SUB of the same operand restores A always; ADC with carry-in c, then SBC of the same operand with carry-in c'
gives A + c - c' mod 256, so A comes back exactly when c' = c. `t` and `x` are any states that hold the sums and give the
operand the same value; run back to back, they are the ADD's and the ADC's own.
It is the law the spec derives in place of the source's sentence (C5). -/
def Obligations.AddSubtractRoundTrip : Prop :=
  ∀ (o : Operand8) (s sum t u sumC x y : State),
    exec (aluInstr .add o) s = .next sum → t.a = sum.a → operandValue t o = operandValue s o →
    exec (aluInstr .sub o) t = .next u →
    exec (aluInstr .adc o) s = .next sumC → x.a = sumC.a → operandValue x o = operandValue s o →
    exec (aluInstr .sbc o) x = .next y →
    u.a = s.a ∧
    y.a = BitVec.ofInt 8 (s.a.toNat + s.flags.c.toNat - x.flags.c.toNat) ∧
    (y.a = s.a ↔ s.flags.c = x.flags.c)

/-! ## 16-bit arithmetic -/

/-- R210: HL gets the sum mod 2^16; H and C are the carries out of bits 11 and 15, N is clear, Z is kept. -/
def Obligations.AddPairToHL : Prop :=
  ∀ (p : Pair) (s : State),
    let a := s.hl.toNat
    let b := (s.pair p).toNat
    Encodes [patternPair 0b00 (pairField p) 1 0b001] (.addHLPair p) ∧
    exec (.addHLPair p) s =
      .next { s.setHL (BitVec.ofNat 16 (a + b)) with
        f := flagByte s.flags.z false (decide (a % 4096 + b % 4096 > 4095)) (decide (a + b > 65535))
        instClocks := 8 }

/-- R211, R212: a pair or SP goes up or down by one, wrapping, and no flag changes. -/
def Obligations.PairIncrementAndDecrement : Prop :=
  ∀ (p : Pair) (s : State),
    (Encodes [patternPair 0b00 (pairField p) 0 0b011] (.incPair p) ∧
      exec (.incPair p) s = .next { s.setPair p (s.pair p + 1#16) with instClocks := 8 }) ∧
    (Encodes [patternPair 0b00 (pairField p) 1 0b011] (.decPair p) ∧
      exec (.decPair p) s = .next { s.setPair p (s.pair p - 1#16) with instClocks := 8 })

/-- R213: SP gets SP plus the signed offset; Z and N are clear, H and C are those of the unsigned byte add. -/
def Obligations.AddOffsetToSP : Prop :=
  ∀ (e : Byte) (s : State),
    Encodes [0xE8#8, e] (.addSPE e) ∧
    exec (.addSPE e) s =
      .next { s with
        sp := s.sp + e.signExtend 16
        f := flagByte false false (decide (s.sp.toNat % 16 + e.toNat % 16 > 15))
          (decide (s.sp.toNat % 256 + e.toNat > 255))
        instClocks := 16 }

/-! ## Rotates, shifts and bit operations -/

/-- R220 to R223: A is rotated, C gets the bit that left it, Z, N and H are cleared whatever the result. -/
def Obligations.AccumulatorRotates : Prop :=
  ∀ s : State,
    let after (op : RotOp) : Host.Outcome State Fault Refusal :=
      let r := rotNat op s.a.toNat s.flags.c.toNat
      .next { s with a := BitVec.ofNat 8 r.1, f := flagByte false false false r.2, instClocks := 4 }
    (Encodes [0x07#8] .rlca ∧ exec .rlca s = after .rlc) ∧
    (Encodes [0x0F#8] .rrca ∧ exec .rrca s = after .rrc) ∧
    (Encodes [0x17#8] .rla ∧ exec .rla s = after .rl) ∧
    (Encodes [0x1F#8] .rra ∧ exec .rra s = after .rr)

/-- R225 to R232: the target is rotated or shifted, flags `Z00C`, cost 8, or 16 for (HL). -/
def Obligations.CbRotatesAndShifts : Prop :=
  ∀ (op : RotOp) (t : Target) (s : State),
    let r := rotNat op (targetValue s t).toNat s.flags.c.toNat
    Encodes [0xCB#8, pattern 0b00 (rotField op) (targetField t)] (.rotate op t) ∧
    exec (.rotate op t) s =
      .next { targetPut s (BitVec.ofNat 8 r.1) t with
        f := flagByte (decide (r.1 = 0)) false false r.2
        instClocks := match t with | .reg _ => 8 | .atHL => 16 }

/-- R233 to R235: BIT sets Z to the complement of the tested bit and writes nothing back; RES and SET change that one bit of the
target and no flag. -/
def Obligations.BitTestResetAndSet : Prop :=
  ∀ (b : Fin 8) (t : Target) (s : State),
    let v := targetValue s t
    (Encodes [0xCB#8, pattern 0b01 (BitVec.ofNat 3 b) (targetField t)] (.bit b t) ∧
      exec (.bit b t) s =
        .next { (match t with | .reg _ => s | .atHL => (memRead s.hl s).2) with
          f := flagByte (!v.getLsbD b) false true s.flags.c
          instClocks := match t with | .reg _ => 8 | .atHL => 12 }) ∧
    (Encodes [0xCB#8, pattern 0b10 (BitVec.ofNat 3 b) (targetField t)] (.res b t) ∧
      ∃ w : Byte, (∀ k : Fin 8, w.getLsbD k = if k = b then false else v.getLsbD k) ∧
        exec (.res b t) s =
          .next { targetPut s w t with instClocks := match t with | .reg _ => 8 | .atHL => 16 }) ∧
    (Encodes [0xCB#8, pattern 0b11 (BitVec.ofNat 3 b) (targetField t)] (.set b t) ∧
      ∃ w : Byte, (∀ k : Fin 8, w.getLsbD k = if k = b then true else v.getLsbD k) ∧
        exec (.set b t) s =
          .next { targetPut s w t with instClocks := match t with | .reg _ => 8 | .atHL => 16 })

/-- R110: the table's row of the bare prefix does with its second byte what the CB instruction of that byte does; the two bytes
decode to that instruction, never to the prefix row (notes/assumptions/6.md). -/
def Obligations.PrefixRowRunsTheCbInstruction : Prop :=
  ∀ (cb : Byte) (s : State),
    Encodes [0xCB#8, cb] (cbInstr cb) ∧
    ∃ t, exec (.prefixCB cb) s = .next t ∧ exec (cbInstr cb) s = .next t

/-! ## Jumps, calls and returns -/

/-- R107 and R241 to R245: when each condition holds; absolute and relative jumps, taken and not taken, with the cost of each. -/
def Obligations.JumpsTakenAndNotTaken : Prop :=
  ∀ (cc : Cond) (nn : Word) (e : Byte) (s : State),
    condHolds cc s = (match cc with
      | .nz => !s.f.getLsbD 7
      | .z => s.f.getLsbD 7
      | .nc => !s.f.getLsbD 4
      | .c => s.f.getLsbD 4) ∧
    (Encodes (0xC3#8 :: immBytes nn) (.jpNn nn) ∧ exec (.jpNn nn) s = .next { s with pc := nn, instClocks := 16 }) ∧
    (Encodes (patternCond 0b11 0 (condField cc) 0b010 :: immBytes nn) (.jpCond cc nn) ∧
      exec (.jpCond cc nn) s =
        .next (if condHolds cc s then { s with pc := nn, instClocks := 16 } else { s with instClocks := 12 })) ∧
    (Encodes [0xE9#8] .jpHL ∧ exec .jpHL s = .next { s with pc := s.hl, instClocks := 4 }) ∧
    (Encodes [0x18#8, e] (.jrE e) ∧
      exec (.jrE e) s = .next { s with pc := s.pc + BitVec.ofInt 16 e.toInt, instClocks := 12 }) ∧
    (Encodes [patternCond 0b00 1 (condField cc) 0b000, e] (.jrCond cc e) ∧
      exec (.jrCond cc e) s =
        .next (if condHolds cc s then { s with pc := s.pc + BitVec.ofInt 16 e.toInt, instClocks := 12 }
          else { s with instClocks := 8 }))

/-- R246, R247, R251: the address after the call is pushed and PC goes to the target; a call not taken changes neither SP nor
memory.
The order of the two writes is the spec's decision (D4, D32). -/
def Obligations.CallsAndRestarts : Prop :=
  ∀ (cc : Cond) (nn : Word) (k : Fin 8) (s : State),
    let pushed := memWrite (s.sp - 2#16) (s.pc.extractLsb' 0 8) (memWrite (s.sp - 1#16) (s.pc.extractLsb' 8 8) s)
    (Encodes (0xCD#8 :: immBytes nn) (.callNn nn) ∧
      exec (.callNn nn) s = .next { pushed with sp := s.sp - 2#16, pc := nn, instClocks := 24 }) ∧
    (Encodes (patternCond 0b11 0 (condField cc) 0b100 :: immBytes nn) (.callCond cc nn) ∧
      exec (.callCond cc nn) s =
        .next (if condHolds cc s then { pushed with sp := s.sp - 2#16, pc := nn, instClocks := 24 }
          else { s with instClocks := 12 })) ∧
    (Encodes [pattern 0b11 (BitVec.ofNat 3 k) 0b111] (.rst k) ∧
      exec (.rst k) s =
        .next { pushed with sp := s.sp - 2#16, pc := BitVec.ofNat 16 (8 * k.val), instClocks := 16 })

/-- R248 to R250: PC is popped; RET cc not taken reads no memory; RETI sets IME at once and leaves `ei_ime_enable`.
The order of the two reads and RETI's lack of a delay are the spec's decisions (D32, D33). -/
def Obligations.Returns : Prop :=
  ∀ (cc : Cond) (s : State),
    let lo := memRead s.sp s
    let hi := memRead (s.sp + 1#16) lo.2
    (Encodes [0xC9#8] .ret ∧
      exec .ret s = .next { hi.2 with pc := hi.1 ++ lo.1, sp := s.sp + 2#16, instClocks := 16 }) ∧
    (Encodes [patternCond 0b11 0 (condField cc) 0b000] (.retCond cc) ∧
      exec (.retCond cc) s =
        .next (if condHolds cc s then { hi.2 with pc := hi.1 ++ lo.1, sp := s.sp + 2#16, instClocks := 20 }
          else { s with instClocks := 8 })) ∧
    (Encodes [0xD9#8] .reti ∧
      exec .reti s = .next { hi.2 with pc := hi.1 ++ lo.1, sp := s.sp + 2#16, ime := true, instClocks := 16 })

/-- A CALL and the RET of its callee come back to the byte after the CALL with SP as it was, where both stack bytes are plain
memory and no answer is scripted (R246, R248; the model's store, notes/assumptions/2.md). -/
def Obligations.ReturnAfterCall : Prop :=
  ∀ (nn : Word) (s t u : State), s.mem.wf = true → s.busAnswers = [] →
    ioRegAt (s.sp - 1#16) = none → ioRegAt (s.sp - 2#16) = none →
    exec (.callNn nn) s = .next t → exec .ret t = .next u → t.pc = nn ∧ u.pc = s.pc ∧ u.sp = s.sp

/-! ## System and control -/

/-- R260, R261, R263, R264: NOP, HALT with and without the HALT bug, DI, and EI, which leaves IME as it is.
The reading of the HALT bug and of the EI flag is the spec's decision (D10, D12). -/
def Obligations.NopHaltDiEi : Prop :=
  ∀ s : State,
    (Encodes [0x00#8] .nop ∧ exec .nop s = .next { s with instClocks := 4 }) ∧
    (Encodes [0x76#8] .halt ∧
      exec .halt s =
        .next (if s.ime = false ∧ s.ie.setWidth 5 &&& s.ifr ≠ 0#5 then { s with haltBug := true, instClocks := 4 }
          else { s with isHalted := true, instClocks := 4 })) ∧
    (Encodes [0xF3#8] .di ∧ exec .di s = .next { s with ime := false, instClocks := 4 }) ∧
    (Encodes [0xFB#8] .ei ∧ exec .ei s = .next { s with eiImeEnable := true, instClocks := 4 })

/-- R262, R289: STOP halts under `STOP_MODE = as_halt`; under `refuse` it records `Refused(STOP, addr)` and changes nothing else.
Every second byte is legal (R114). So under `refuse` the tick that fetches 0x10 at PC leaves the record with PC's address, PC past
both bytes (past one after the HALT bug, which reads 0x10 as both), the HALT bug and the armed EI consumed, and IME and
`inst_clocks` as they were.
What STOP does is the spec's open parameter and decision (D15, D35). exec alone takes addr from the model's own field opAddr
(notes/assumptions/5.md), which the clause on the tick ties to PC; that the faulting tick answers a next state is
notes/assumptions/10.md. PC after the HALT bug follows R262's Fetch8 (notes/assumptions/11.md). -/
def Obligations.StopByMode : Prop :=
  (∀ (n : Byte) (s : State),
    Encodes [0x10#8, n] (.stop n) ∧
    (s.cfg.stopMode = .asHalt → exec (.stop n) s = .next { s with isHalted := true, instClocks := 4 }) ∧
    (s.cfg.stopMode = .refuse → exec (.stop n) s = .next { s with fault := some (.refusedStop s.opAddr) })) ∧
  ∀ s : State, FetchesNow s → s.cfg.stopMode = .refuse →
    let s1 := boundaryState s
    let first := memRead s1.pc s1
    let next : Word := if s1.haltBug then s1.pc else s1.pc + 1#16
    let second := memRead next first.2
    first.1 = 0x10#8 →
    step s = .next { second.2 with
      pc := next + 1#16
      opAddr := s1.pc
      haltBug := false
      eiImeEnable := false
      fault := some (.refusedStop s1.pc) }

/-- R113, R265, R289: the eleven invalid bytes are these, each decodes to its own row, and executing it records
`InvalidOpcode(op, addr)` and changes nothing else. So the tick that fetches one at PC leaves the record with PC's address, PC
past the byte (at it after the HALT bug), the HALT bug and the armed EI consumed, and IME and `inst_clocks` as they were.
What the condition leaves is the spec's decision (D9). exec alone takes addr from the model's own field opAddr
(notes/assumptions/5.md), which the clause on the tick ties to PC; that the faulting tick answers a next state is
notes/assumptions/10.md. -/
def Obligations.InvalidOpcodesRecordTheFault : Prop :=
  invalidBytes.map (·.1) =
    [0xD3#8, 0xDB#8, 0xDD#8, 0xE3#8, 0xE4#8, 0xEB#8, 0xEC#8, 0xED#8, 0xF4#8, 0xFC#8, 0xFD#8] ∧
  ∀ (b : Byte) (i : Instr), (b, i) ∈ invalidBytes →
    (∀ s : State, Encodes [b] i ∧ exec i s = .next { s with fault := some (.invalidOpcode b s.opAddr) }) ∧
    ∀ s : State, FetchesNow s →
      let s1 := boundaryState s
      let r := memRead s1.pc s1
      r.1 = b →
      step s = .next { r.2 with
        pc := if s1.haltBug then s1.pc else s1.pc + 1#16
        opAddr := s1.pc
        haltBug := false
        eiImeEnable := false
        fault := some (.invalidOpcode b s1.pc) }

/-! ## The tick, interrupts and the timer -/

/-- R101, R288, R289, R291: at a boundary whose tick fetches, the bytes read by `MemRead` at PC and at the addresses after it (the
same address again after the HALT bug) decode to `i`, and the step is `exec i` on the state with PC past them, the HALT bug
and the armed EI consumed, and the opcode's address noted. If `i` records a fault that is the state left; else an armed EI
sets IME after any instruction but DI, and one tick is counted.
The EI delay and the HALT bug are as the spec's decisions read them (D10, D12); the opcode's address is the model's own field
(notes/assumptions/5.md). -/
def Obligations.StepRunsTheDecodedInstruction : Prop :=
  ∀ (s : State) (n : Nat) (i : Instr), FetchesNow s →
    let s1 := boundaryState s
    let first := memRead s1.pc s1
    let next : Word := if s1.haltBug then s1.pc else s1.pc + 1#16
    let more := readBytes n next first.2
    decode (first.1 :: more.1) = .ok (i, []) →
    ∃ t, exec i { more.2 with
          pc := next + BitVec.ofNat 16 n, opAddr := s1.pc, haltBug := false, eiImeEnable := false } = .next t ∧
      step s = .next (if t.fault = none then
          { t with ime := t.ime || (s.eiImeEnable && decide (i ≠ .di)), instClocks := t.instClocks - 1 }
        else t)

/-- R282, R291: while an instruction is in flight a tick advances the divider and timer and counts down, and does nothing
else. -/
def Obligations.CountingTick : Prop :=
  ∀ (s : State) (n : Nat), s.fault = none → s.instClocks = n + 1 →
    step s = .next { timerStep (requesterMove s) with instClocks := n }

/-- R291, R303: an instruction in flight with `k` ticks left reaches its boundary after exactly `k` ticks, and nothing but the
divider, TIMA, IF, the requests taken and the count has changed by then. -/
def Obligations.InstructionOccupiesItsCost : Prop :=
  ∀ s : State, s.fault = none →
    (∀ k < s.instClocks, ∃ t, RunsTo k s t ∧ t.instClocks = s.instClocks - k) ∧
    ∃ t, RunsTo s.instClocks s t ∧ t.divcnt = s.divcnt + BitVec.ofNat 16 s.instClocks ∧
      t = { s with
        divcnt := t.divcnt, tima := t.tima, ifr := t.ifr, requests := s.requests.drop s.instClocks, instClocks := 0 }

/-- R298, R301: in every tick the divider goes up by one, and with the timer enabled TIMA counts in exactly the ticks whose new
divider is a multiple of the selected period; from 0xFF it is reloaded from TMA and requests the Timer interrupt.
The enable bit, the reload, the codes and the width are the spec's decisions (D16, D18, D19). -/
def Obligations.TimerCountsOncePerPeriod : Prop :=
  ∀ s : State,
    timerStep s =
      if s.tac.getLsbD 2 = true ∧ (s.divcnt.toNat + 1) % period s.tac = 0 then
        if s.tima = 0xFF#8 then
          { s with divcnt := s.divcnt + 1#16, tima := s.tma, ifr := s.ifr ||| 0b00100#5 }
        else { s with divcnt := s.divcnt + 1#16, tima := s.tima + 1#8 }
      else { s with divcnt := s.divcnt + 1#16 }

/-- R286, R287, R292: at a boundary with IME set, the lowest pending source `i` is dispatched in one tick: IME and the armed EI
clear, the CPU awake, PC (or the address of the HALT under the HALT bug) pushed high byte first, IF[i] cleared even where
the push wrote IF or IE, PC at the vector, and 19 of the 20 ticks left.
The vectors but VBlank's, the dropped arming, the HALT's address and the lack of a cancellation are the spec's decisions (D3, D11,
D13, D29). -/
def Obligations.DispatchOfTheLowestPendingSource : Prop :=
  ∀ (s : State) (i : Source),
    let s1 := timerStep (requesterMove s)
    s.fault = none → s.instClocks = 0 → s.ime = true →
    (s1.ie.setWidth 5 &&& s1.ifr).getLsbD i.bit = true →
    (∀ k < i.bit, (s1.ie.setWidth 5 &&& s1.ifr).getLsbD k = false) →
    let ret := if s.haltBug then s.pc - 1#16 else s.pc
    let w := memWrite (s.sp - 2#16) (ret.extractLsb' 0 8) (memWrite (s.sp - 1#16) (ret.extractLsb' 8 8) s1)
    step s = .next { w with
      ime := false, eiImeEnable := false, haltBug := false, isHalted := false
      ifr := w.ifr &&& ~~~(1#5 <<< i.bit)
      sp := s.sp - 2#16
      pc := match i with
        | .vblank => 0x0040#16
        | .lcdStat => s.cfg.vectorLcdStat
        | .timer => s.cfg.vectorTimer
        | .serial => s.cfg.vectorSerial
        | .joypad => s.cfg.vectorJoypad
      instClocks := 19 }

/-- R284, R290: a halted CPU with nothing pending is charged 4 ticks and touches no bus; a pending interrupt wakes it with IME
clear, and the same tick fetches.
That pending includes IE, and that the wake and the fetch share a tick, are the spec's decisions (D5, D14). -/
def Obligations.HaltedBoundaryChargesOrWakes : Prop :=
  ∀ s : State, s.fault = none → s.instClocks = 0 → s.isHalted = true →
    (pending (timerStep (requesterMove s)) = 0#5 →
      step s = .next { timerStep (requesterMove s) with instClocks := 3 }) ∧
    (pending (timerStep (requesterMove s)) ≠ 0#5 → s.ime = false →
      step s = fetchExecute { timerStep (requesterMove s) with isHalted := false })

/-- R264, R283, R288, R315: at a boundary with IME clear and an EI armed, not halted after the wake, the tick fetches whatever is
pending and answers a next state: there IME is set unless the instruction was DI or faulted, and the arming is used up unless the
instruction was another EI.
How DI and a dispatch meet an armed EI is the spec's decision (D10, D11); that a faulting tick answers a next state is
notes/assumptions/10.md. -/
def Obligations.EiTakesEffectOneInstructionLater : Prop :=
  ∀ s : State, s.fault = none → s.instClocks = 0 → (boundaryState s).isHalted = false →
    s.ime = false → s.eiImeEnable = true →
    FetchesNow s ∧ ∃ t, step s = .next t ∧
      (t.fault = none → t.ime = decide ((fetchInstr (boundaryState s)).instr ≠ .di)) ∧
      (t.fault ≠ none → t.ime = false) ∧
      t.eiImeEnable = decide ((fetchInstr (boundaryState s)).instr = .ei)

/-- R41: IME goes from clear to set in a fetch tick alone, by an armed EI or by RETI.
It rests on the spec's decisions D10 and D33. -/
def Obligations.ImeIsSetByEiOrRetiAlone : Prop :=
  ∀ s t : State, step s = .next t → s.ime = false → t.ime = true →
    FetchesNow s ∧ (s.eiImeEnable = true ∨ (fetchInstr (boundaryState s)).instr = .reti)

/-- R289, R314: a faulted block is stuck for good; and a tick sets `fault` only by fetching one of the eleven invalid bytes, or
STOP under `STOP_MODE = refuse`.
That the fault is terminal is the spec's decision (D9); that the faulting tick is a next state and the stuck ones are not is the
model's reading (notes/assumptions/10.md). -/
def Obligations.FaultIsTerminal : Prop :=
  (∀ (s : State) (record : FaultRecord), s.fault = some record → step s = .fault (.stuck record)) ∧
  (∀ (s t : State) (record : FaultRecord), step s = .next t → t.fault = some record →
    FetchesNow s ∧ t.instClocks = 0 ∧
      ((∃ b i, (b, i) ∈ invalidBytes ∧ (fetchInstr (boundaryState s)).instr = i ∧
          record = .invalidOpcode b (boundaryState s).pc) ∨
        (∃ n, (fetchInstr (boundaryState s)).instr = .stop n ∧ s.cfg.stopMode = .refuse ∧
          record = .refusedStop (boundaryState s).pc)))

/-- R295: between two ticks the requester sets the IF bits of the VBlank, LCD-STAT, Serial and Joypad requests it raises; it clears
none, never sets the Timer's bit, and touches nothing else.
The agent is the spec's decision (D27); its script is the model's form of it (notes/assumptions/3.md). -/
def Obligations.RequesterSetsItsFourBitsAlone : Prop :=
  ∀ (s : State) (q : Request) (later : List Request),
    step { s with requests := q :: later } =
      tick { s with requests := later, ifr := s.ifr ||| q.mask } ∧
    q.mask.getLsbD 0 = q.vblank ∧ q.mask.getLsbD 1 = q.lcdStat ∧ q.mask.getLsbD 2 = false ∧
    q.mask.getLsbD 3 = q.serial ∧ q.mask.getLsbD 4 = q.joypad

/-- R357: with IME set and an interrupt pending, a dispatch comes after at most 24 ticks, by the tick that follows the rest of
the instruction in flight.
It is a rule the spec derives. -/
def Obligations.DispatchWithinTwentyFourTicks : Prop :=
  ∀ s : State, s.Inv → s.fault = none → s.ime = true → pending s ≠ 0#5 →
    ∃ (k : Nat) (t u : State) (i : Source), k ≤ 24 ∧ RunsTo k s t ∧ step t = .next u ∧
      u.ime = false ∧ u.instClocks = 19 ∧ u.pc = vector s.cfg i ∧ u.sp = t.sp - 2#16

/-! ## Reset, invariant, orchestrator -/

/-- R341, R342: the six register values right after construction on both paths, whatever the other parameters. -/
def Obligations.PowerOnValues : Prop :=
  (∀ cfg : Config, cfg.bootRom = .bypassed →
    getRegisters (State.powerOn cfg) =
      { af := 0x01B0#16, bc := 0x0013#16, de := 0x00D8#16, hl := 0x014D#16, sp := 0xFFFE#16, pc := 0x0100#16 }) ∧
  (∀ cfg : Config, cfg.bootRom = .simulated →
    getRegisters (State.powerOn cfg) = { af := 0#16, bc := 0#16, de := 0#16, hl := 0#16, sp := 0#16, pc := 0#16 })

/-- Right after construction, whatever the parameters, the invariant holds and the execution state, the timer and the interrupt
registers hold the values the spec decides on (R343, R344: D20 to D23); `State.reset` is the default choice of parameters
(notes/assumptions/7.md). -/
def Obligations.PowerOnMeetsTheInvariant : Prop :=
  (∀ cfg : Config,
    let s := State.powerOn cfg
    s.Inv ∧ s.instClocks = 0 ∧ s.ime = false ∧ s.isHalted = false ∧ s.haltBug = false ∧ s.eiImeEnable = false ∧
    s.fault = none ∧ s.divcnt = cfg.div0 ∧ s.tima = 0#8 ∧ s.tma = 0#8 ∧ s.tac = 0#3 ∧ s.ifr = cfg.if0 ∧ s.ie = 0#8 ∧
    s.cfg = cfg) ∧
  State.reset = State.powerOn Config.default ∧ State.reset.Inv

/-- R33, R40, R43, R71, R289: every step keeps the invariant: the store in canonical form on external addresses, F's low nibble
zero, `inst_clocks` at most 24, nothing in flight once faulted, no HALT bug pending while halted. -/
def Obligations.StepKeepsTheInvariant : Prop :=
  ∀ s t : State, s.Inv → step s = .next t → t.Inv

/-- R10, R49: no step changes the parameters or the orchestrator's breakpoint. -/
def Obligations.StepKeepsParametersAndBreakpoint : Prop :=
  ∀ s t : State, step s = .next t → t.cfg = s.cfg ∧ t.bpAddr = s.bpAddr ∧ t.bpEnabled = s.bpEnabled

/-- R309, R310: `tick_once` is one tick and checks no breakpoint; after a tick of `tick_instr` or `tick_frame` that returns Boundary
the breakpoint is hit exactly when it is enabled and PC is its address, and the hit disables it and changes nothing else.
`tick_instr` is four such ticks and returns what the fourth does, unless a fault, Stuck or a hit ends it at the first, second or
third. `tick_frame` goes on while the ticks go on and `frame_done` answers no: a tick that faults, is Stuck or hits ends it with
that outcome, whatever `frame_done` answers; else the first yes ends it with FrameDone.
The outcomes, the tick of `tick_once`, the PC compared and `frame_done` as an oracle's answer are the spec's decisions (D25, D26,
D38, D39); the list of its answers, one after each tick, is the model's form of them (notes/assumptions/12.md). -/
def Obligations.EntryPointsAndBreakpoints : Prop :=
  (∀ s t : State, step s = .next t →
    tickOnce s = (if t.fault ≠ none then .fault else if t.instClocks = 0 then .boundary else .continued, t)) ∧
  (∀ (s : State) (record : Fault), step s = .fault record → tickOnce s = (.stuck, s)) ∧
  (∀ s t : State, tickOnce s = (.boundary, t) → t.bpEnabled = true → t.pc = t.bpAddr →
    tickChecked s = (.breakpointHit, { t with bpEnabled := false })) ∧
  (∀ s t : State, tickOnce s = (.boundary, t) → (t.bpEnabled = false ∨ t.pc ≠ t.bpAddr) →
    tickChecked s = (.boundary, t)) ∧
  (∀ (s t : State) (o : EntryOutcome), tickOnce s = (o, t) → o ≠ .boundary → tickChecked s = (o, t)) ∧
  (∀ s t : State, GoesOn 3 s t → tickInstr s = tickChecked t) ∧
  (∀ (k : Nat) (s t u : State) (o : EntryOutcome), k < 3 → GoesOn k s t → tickChecked t = (o, u) → Ends o →
    tickInstr s = (o, u)) ∧
  (∀ (k : Nat) (s t u : State) (o : EntryOutcome) (done : Bool) (rest : List Bool),
    GoesOn k s t → tickChecked t = (o, u) → Ends o →
    tickFrame (List.replicate k false ++ done :: rest) s = (o, u)) ∧
  (∀ (k : Nat) (s t : State) (rest : List Bool), GoesOn (k + 1) s t →
    tickFrame (List.replicate k false ++ true :: rest) s = (.frameDone, t))
end

