-- ==== Sys2Proof/Laws/Memory.lean ====
section
/-! SUPPORT. The external store: a read after a write, and that every operation keeps the canonical form. -/

namespace Sys2Proof.Machine

theorem Memory.wfFrom_cons {lo k : Nat} {v : Byte} {rest : Memory} :
    Memory.wfFrom lo ((k, v) :: rest) = true ↔
      lo ≤ k ∧ externalAddr k = true ∧ v ≠ Memory.unlisted ∧ Memory.wfFrom (k + 1) rest = true := by
  simp [Memory.wfFrom, and_assoc]

/-- A canonical store from a higher address on is one from a lower address on. -/
theorem Memory.wfFrom_mono {lo lo' : Nat} {m : Memory} (h : lo ≤ lo') (hm : Memory.wfFrom lo' m = true) :
    Memory.wfFrom lo m = true := by
  cases m with
  | nil => rfl
  | cons p rest =>
    obtain ⟨k, v⟩ := p
    rw [Memory.wfFrom_cons] at hm ⊢
    exact ⟨by omega, hm.2⟩

/-- Below its first address a canonical store reads as unlisted. -/
theorem Memory.read_below {lo a : Nat} {m : Memory} (hm : Memory.wfFrom lo m = true) (h : a < lo) :
    Memory.read m a = Memory.unlisted := by
  induction m generalizing lo with
  | nil => rfl
  | cons p rest ih =>
    obtain ⟨k, v⟩ := p
    rw [Memory.wfFrom_cons] at hm
    rw [Memory.read, if_neg (by omega)]
    exact ih hm.2.2.2 (by omega)

theorem Memory.read_write_self {lo : Nat} {m : Memory} (hm : Memory.wfFrom lo m = true) (a : Nat) (v : Byte) :
    Memory.read (Memory.write m a v) a = v := by
  induction m generalizing lo with
  | nil =>
    by_cases hv : v = Memory.unlisted <;> simp [Memory.write, Memory.read, hv]
  | cons p rest ih =>
    obtain ⟨k, w⟩ := p
    have hc := Memory.wfFrom_cons.mp hm
    by_cases hk : k = a
    · by_cases hv : v = Memory.unlisted
      · simp only [Memory.write, if_pos hk, hv]
        exact Memory.read_below hc.2.2.2 (by omega)
      · simp [Memory.write, Memory.read, hk, hv]
    · by_cases hlt : a < k
      · by_cases hv : v = Memory.unlisted
        · simp only [Memory.write, if_neg hk, if_pos hlt, hv]
          exact Memory.read_below (Memory.wfFrom_cons.mpr ⟨Nat.le_refl k, hc.2⟩) hlt
        · simp [Memory.write, Memory.read, hk, hlt, hv]
      · simp only [Memory.write, if_neg hk, if_neg hlt, Memory.read]
        exact ih hc.2.2.2

theorem Memory.read_write_other {m : Memory} {a b : Nat} (v : Byte) (h : b ≠ a) :
    Memory.read (Memory.write m a v) b = Memory.read m b := by
  induction m with
  | nil =>
    by_cases hv : v = Memory.unlisted <;> simp [Memory.write, Memory.read, hv, Ne.symm h]
  | cons p rest ih =>
    obtain ⟨k, w⟩ := p
    by_cases hk : k = a
    · subst hk
      by_cases hv : v = Memory.unlisted <;> simp [Memory.write, Memory.read, hv, Ne.symm h]
    · by_cases hlt : a < k
      · by_cases hv : v = Memory.unlisted <;> simp [Memory.write, Memory.read, hk, hlt, hv, Ne.symm h]
      · simp only [Memory.write, if_neg hk, if_neg hlt, Memory.read, ih]

theorem Memory.wfFrom_write {lo : Nat} {m : Memory} (hm : Memory.wfFrom lo m = true) {a : Nat} (h : lo ≤ a)
    (ha : externalAddr a = true) (v : Byte) : Memory.wfFrom lo (Memory.write m a v) = true := by
  induction m generalizing lo with
  | nil =>
    by_cases hv : v = Memory.unlisted
    · simp [Memory.write, hv, Memory.wfFrom]
    · simp [Memory.write, hv, Memory.wfFrom, h, ha]
  | cons p rest ih =>
    obtain ⟨k, w⟩ := p
    have hc := Memory.wfFrom_cons.mp hm
    by_cases hk : k = a
    · by_cases hv : v = Memory.unlisted
      · simp only [Memory.write, if_pos hk, if_pos hv]
        exact Memory.wfFrom_mono (by omega) hc.2.2.2
      · simp only [Memory.write, if_pos hk, if_neg hv]
        exact Memory.wfFrom_cons.mpr ⟨h, ha, hv, hk ▸ hc.2.2.2⟩
    · by_cases hlt : a < k
      · by_cases hv : v = Memory.unlisted
        · simpa only [Memory.write, if_neg hk, if_pos hlt, if_pos hv] using hm
        · simp only [Memory.write, if_neg hk, if_pos hlt, if_neg hv]
          exact Memory.wfFrom_cons.mpr ⟨h, ha, hv, Memory.wfFrom_cons.mpr ⟨by omega, hc.2⟩⟩
      · simp only [Memory.write, if_neg hk, if_neg hlt]
        exact Memory.wfFrom_cons.mpr ⟨hc.1, hc.2.1, hc.2.2.1, ih hc.2.2.2 (by omega)⟩

/-- A write to an external address keeps the canonical form. -/
theorem Memory.wf_write {m : Memory} (hm : m.wf = true) {a : Nat} (ha : externalAddr a = true) (v : Byte) :
    (m.write a v).wf = true := Memory.wfFrom_write hm (Nat.zero_le a) ha v

theorem Memory.read_write {m : Memory} (hm : m.wf = true) (a b : Nat) (v : Byte) :
    (m.write a v).read b = if b = a then v else m.read b := by
  by_cases h : b = a
  · rw [if_pos h, h]
    exact Memory.read_write_self hm a v
  · rw [if_neg h]
    exact Memory.read_write_other v h

/-- An address that holds no in-block register is external. -/
theorem externalAddr_toNat {addr : Word} (h : ioRegAt addr = none) : externalAddr addr.toNat = true := by
  have hlt : addr.toNat < 65536 := addr.isLt
  simp [externalAddr, h, hlt]

theorem State.reset_mem_wf : State.reset.mem.wf = true := rfl

end Sys2Proof.Machine
end

