-- ==== Sys2Proof/Laws/State.lean ====
section
/-! SUPPORT. One lemma per field per register update: what each named update of State writes and what it leaves. -/

namespace Sys2Proof.Machine

@[simp] theorem State.setReg_f (s : State) (r : Reg8) (v : Byte) : (s.setReg r v).f = s.f := by cases r <;> rfl
@[simp] theorem State.setReg_sp (s : State) (r : Reg8) (v : Byte) : (s.setReg r v).sp = s.sp := by cases r <;> rfl
@[simp] theorem State.setReg_pc (s : State) (r : Reg8) (v : Byte) : (s.setReg r v).pc = s.pc := by cases r <;> rfl
@[simp] theorem State.setReg_instClocks (s : State) (r : Reg8) (v : Byte) : (s.setReg r v).instClocks = s.instClocks := by cases r <;> rfl
@[simp] theorem State.setReg_ime (s : State) (r : Reg8) (v : Byte) : (s.setReg r v).ime = s.ime := by cases r <;> rfl
@[simp] theorem State.setReg_isHalted (s : State) (r : Reg8) (v : Byte) : (s.setReg r v).isHalted = s.isHalted := by cases r <;> rfl
@[simp] theorem State.setReg_haltBug (s : State) (r : Reg8) (v : Byte) : (s.setReg r v).haltBug = s.haltBug := by cases r <;> rfl
@[simp] theorem State.setReg_eiImeEnable (s : State) (r : Reg8) (v : Byte) : (s.setReg r v).eiImeEnable = s.eiImeEnable := by cases r <;> rfl
@[simp] theorem State.setReg_fault (s : State) (r : Reg8) (v : Byte) : (s.setReg r v).fault = s.fault := by cases r <;> rfl
@[simp] theorem State.setReg_opAddr (s : State) (r : Reg8) (v : Byte) : (s.setReg r v).opAddr = s.opAddr := by cases r <;> rfl
@[simp] theorem State.setReg_divcnt (s : State) (r : Reg8) (v : Byte) : (s.setReg r v).divcnt = s.divcnt := by cases r <;> rfl
@[simp] theorem State.setReg_tima (s : State) (r : Reg8) (v : Byte) : (s.setReg r v).tima = s.tima := by cases r <;> rfl
@[simp] theorem State.setReg_tma (s : State) (r : Reg8) (v : Byte) : (s.setReg r v).tma = s.tma := by cases r <;> rfl
@[simp] theorem State.setReg_tac (s : State) (r : Reg8) (v : Byte) : (s.setReg r v).tac = s.tac := by cases r <;> rfl
@[simp] theorem State.setReg_ifr (s : State) (r : Reg8) (v : Byte) : (s.setReg r v).ifr = s.ifr := by cases r <;> rfl
@[simp] theorem State.setReg_ie (s : State) (r : Reg8) (v : Byte) : (s.setReg r v).ie = s.ie := by cases r <;> rfl
@[simp] theorem State.setReg_mem (s : State) (r : Reg8) (v : Byte) : (s.setReg r v).mem = s.mem := by cases r <;> rfl
@[simp] theorem State.setReg_busAnswers (s : State) (r : Reg8) (v : Byte) : (s.setReg r v).busAnswers = s.busAnswers := by cases r <;> rfl
@[simp] theorem State.setReg_busEvents (s : State) (r : Reg8) (v : Byte) : (s.setReg r v).busEvents = s.busEvents := by cases r <;> rfl
@[simp] theorem State.setReg_requests (s : State) (r : Reg8) (v : Byte) : (s.setReg r v).requests = s.requests := by cases r <;> rfl
@[simp] theorem State.setReg_bpAddr (s : State) (r : Reg8) (v : Byte) : (s.setReg r v).bpAddr = s.bpAddr := by cases r <;> rfl
@[simp] theorem State.setReg_bpEnabled (s : State) (r : Reg8) (v : Byte) : (s.setReg r v).bpEnabled = s.bpEnabled := by cases r <;> rfl
@[simp] theorem State.setReg_cfg (s : State) (r : Reg8) (v : Byte) : (s.setReg r v).cfg = s.cfg := by cases r <;> rfl

@[simp] theorem State.setAF_a (s : State) (v : Word) : (s.setAF v).a = hiByte v := rfl
@[simp] theorem State.setAF_f (s : State) (v : Word) : (s.setAF v).f = maskF (loByte v) := rfl
@[simp] theorem State.setAF_b (s : State) (v : Word) : (s.setAF v).b = s.b := rfl
@[simp] theorem State.setAF_c (s : State) (v : Word) : (s.setAF v).c = s.c := rfl
@[simp] theorem State.setAF_d (s : State) (v : Word) : (s.setAF v).d = s.d := rfl
@[simp] theorem State.setAF_e (s : State) (v : Word) : (s.setAF v).e = s.e := rfl
@[simp] theorem State.setAF_h (s : State) (v : Word) : (s.setAF v).h = s.h := rfl
@[simp] theorem State.setAF_l (s : State) (v : Word) : (s.setAF v).l = s.l := rfl
@[simp] theorem State.setAF_sp (s : State) (v : Word) : (s.setAF v).sp = s.sp := rfl
@[simp] theorem State.setAF_pc (s : State) (v : Word) : (s.setAF v).pc = s.pc := rfl
@[simp] theorem State.setAF_instClocks (s : State) (v : Word) : (s.setAF v).instClocks = s.instClocks := rfl
@[simp] theorem State.setAF_ime (s : State) (v : Word) : (s.setAF v).ime = s.ime := rfl
@[simp] theorem State.setAF_isHalted (s : State) (v : Word) : (s.setAF v).isHalted = s.isHalted := rfl
@[simp] theorem State.setAF_haltBug (s : State) (v : Word) : (s.setAF v).haltBug = s.haltBug := rfl
@[simp] theorem State.setAF_eiImeEnable (s : State) (v : Word) : (s.setAF v).eiImeEnable = s.eiImeEnable := rfl
@[simp] theorem State.setAF_fault (s : State) (v : Word) : (s.setAF v).fault = s.fault := rfl
@[simp] theorem State.setAF_opAddr (s : State) (v : Word) : (s.setAF v).opAddr = s.opAddr := rfl
@[simp] theorem State.setAF_divcnt (s : State) (v : Word) : (s.setAF v).divcnt = s.divcnt := rfl
@[simp] theorem State.setAF_tima (s : State) (v : Word) : (s.setAF v).tima = s.tima := rfl
@[simp] theorem State.setAF_tma (s : State) (v : Word) : (s.setAF v).tma = s.tma := rfl
@[simp] theorem State.setAF_tac (s : State) (v : Word) : (s.setAF v).tac = s.tac := rfl
@[simp] theorem State.setAF_ifr (s : State) (v : Word) : (s.setAF v).ifr = s.ifr := rfl
@[simp] theorem State.setAF_ie (s : State) (v : Word) : (s.setAF v).ie = s.ie := rfl
@[simp] theorem State.setAF_mem (s : State) (v : Word) : (s.setAF v).mem = s.mem := rfl
@[simp] theorem State.setAF_busAnswers (s : State) (v : Word) : (s.setAF v).busAnswers = s.busAnswers := rfl
@[simp] theorem State.setAF_busEvents (s : State) (v : Word) : (s.setAF v).busEvents = s.busEvents := rfl
@[simp] theorem State.setAF_requests (s : State) (v : Word) : (s.setAF v).requests = s.requests := rfl
@[simp] theorem State.setAF_bpAddr (s : State) (v : Word) : (s.setAF v).bpAddr = s.bpAddr := rfl
@[simp] theorem State.setAF_bpEnabled (s : State) (v : Word) : (s.setAF v).bpEnabled = s.bpEnabled := rfl
@[simp] theorem State.setAF_cfg (s : State) (v : Word) : (s.setAF v).cfg = s.cfg := rfl

@[simp] theorem State.setBC_a (s : State) (v : Word) : (s.setBC v).a = s.a := rfl
@[simp] theorem State.setBC_f (s : State) (v : Word) : (s.setBC v).f = s.f := rfl
@[simp] theorem State.setBC_b (s : State) (v : Word) : (s.setBC v).b = hiByte v := rfl
@[simp] theorem State.setBC_c (s : State) (v : Word) : (s.setBC v).c = loByte v := rfl
@[simp] theorem State.setBC_d (s : State) (v : Word) : (s.setBC v).d = s.d := rfl
@[simp] theorem State.setBC_e (s : State) (v : Word) : (s.setBC v).e = s.e := rfl
@[simp] theorem State.setBC_h (s : State) (v : Word) : (s.setBC v).h = s.h := rfl
@[simp] theorem State.setBC_l (s : State) (v : Word) : (s.setBC v).l = s.l := rfl
@[simp] theorem State.setBC_sp (s : State) (v : Word) : (s.setBC v).sp = s.sp := rfl
@[simp] theorem State.setBC_pc (s : State) (v : Word) : (s.setBC v).pc = s.pc := rfl
@[simp] theorem State.setBC_instClocks (s : State) (v : Word) : (s.setBC v).instClocks = s.instClocks := rfl
@[simp] theorem State.setBC_ime (s : State) (v : Word) : (s.setBC v).ime = s.ime := rfl
@[simp] theorem State.setBC_isHalted (s : State) (v : Word) : (s.setBC v).isHalted = s.isHalted := rfl
@[simp] theorem State.setBC_haltBug (s : State) (v : Word) : (s.setBC v).haltBug = s.haltBug := rfl
@[simp] theorem State.setBC_eiImeEnable (s : State) (v : Word) : (s.setBC v).eiImeEnable = s.eiImeEnable := rfl
@[simp] theorem State.setBC_fault (s : State) (v : Word) : (s.setBC v).fault = s.fault := rfl
@[simp] theorem State.setBC_opAddr (s : State) (v : Word) : (s.setBC v).opAddr = s.opAddr := rfl
@[simp] theorem State.setBC_divcnt (s : State) (v : Word) : (s.setBC v).divcnt = s.divcnt := rfl
@[simp] theorem State.setBC_tima (s : State) (v : Word) : (s.setBC v).tima = s.tima := rfl
@[simp] theorem State.setBC_tma (s : State) (v : Word) : (s.setBC v).tma = s.tma := rfl
@[simp] theorem State.setBC_tac (s : State) (v : Word) : (s.setBC v).tac = s.tac := rfl
@[simp] theorem State.setBC_ifr (s : State) (v : Word) : (s.setBC v).ifr = s.ifr := rfl
@[simp] theorem State.setBC_ie (s : State) (v : Word) : (s.setBC v).ie = s.ie := rfl
@[simp] theorem State.setBC_mem (s : State) (v : Word) : (s.setBC v).mem = s.mem := rfl
@[simp] theorem State.setBC_busAnswers (s : State) (v : Word) : (s.setBC v).busAnswers = s.busAnswers := rfl
@[simp] theorem State.setBC_busEvents (s : State) (v : Word) : (s.setBC v).busEvents = s.busEvents := rfl
@[simp] theorem State.setBC_requests (s : State) (v : Word) : (s.setBC v).requests = s.requests := rfl
@[simp] theorem State.setBC_bpAddr (s : State) (v : Word) : (s.setBC v).bpAddr = s.bpAddr := rfl
@[simp] theorem State.setBC_bpEnabled (s : State) (v : Word) : (s.setBC v).bpEnabled = s.bpEnabled := rfl
@[simp] theorem State.setBC_cfg (s : State) (v : Word) : (s.setBC v).cfg = s.cfg := rfl

@[simp] theorem State.setDE_a (s : State) (v : Word) : (s.setDE v).a = s.a := rfl
@[simp] theorem State.setDE_f (s : State) (v : Word) : (s.setDE v).f = s.f := rfl
@[simp] theorem State.setDE_b (s : State) (v : Word) : (s.setDE v).b = s.b := rfl
@[simp] theorem State.setDE_c (s : State) (v : Word) : (s.setDE v).c = s.c := rfl
@[simp] theorem State.setDE_d (s : State) (v : Word) : (s.setDE v).d = hiByte v := rfl
@[simp] theorem State.setDE_e (s : State) (v : Word) : (s.setDE v).e = loByte v := rfl
@[simp] theorem State.setDE_h (s : State) (v : Word) : (s.setDE v).h = s.h := rfl
@[simp] theorem State.setDE_l (s : State) (v : Word) : (s.setDE v).l = s.l := rfl
@[simp] theorem State.setDE_sp (s : State) (v : Word) : (s.setDE v).sp = s.sp := rfl
@[simp] theorem State.setDE_pc (s : State) (v : Word) : (s.setDE v).pc = s.pc := rfl
@[simp] theorem State.setDE_instClocks (s : State) (v : Word) : (s.setDE v).instClocks = s.instClocks := rfl
@[simp] theorem State.setDE_ime (s : State) (v : Word) : (s.setDE v).ime = s.ime := rfl
@[simp] theorem State.setDE_isHalted (s : State) (v : Word) : (s.setDE v).isHalted = s.isHalted := rfl
@[simp] theorem State.setDE_haltBug (s : State) (v : Word) : (s.setDE v).haltBug = s.haltBug := rfl
@[simp] theorem State.setDE_eiImeEnable (s : State) (v : Word) : (s.setDE v).eiImeEnable = s.eiImeEnable := rfl
@[simp] theorem State.setDE_fault (s : State) (v : Word) : (s.setDE v).fault = s.fault := rfl
@[simp] theorem State.setDE_opAddr (s : State) (v : Word) : (s.setDE v).opAddr = s.opAddr := rfl
@[simp] theorem State.setDE_divcnt (s : State) (v : Word) : (s.setDE v).divcnt = s.divcnt := rfl
@[simp] theorem State.setDE_tima (s : State) (v : Word) : (s.setDE v).tima = s.tima := rfl
@[simp] theorem State.setDE_tma (s : State) (v : Word) : (s.setDE v).tma = s.tma := rfl
@[simp] theorem State.setDE_tac (s : State) (v : Word) : (s.setDE v).tac = s.tac := rfl
@[simp] theorem State.setDE_ifr (s : State) (v : Word) : (s.setDE v).ifr = s.ifr := rfl
@[simp] theorem State.setDE_ie (s : State) (v : Word) : (s.setDE v).ie = s.ie := rfl
@[simp] theorem State.setDE_mem (s : State) (v : Word) : (s.setDE v).mem = s.mem := rfl
@[simp] theorem State.setDE_busAnswers (s : State) (v : Word) : (s.setDE v).busAnswers = s.busAnswers := rfl
@[simp] theorem State.setDE_busEvents (s : State) (v : Word) : (s.setDE v).busEvents = s.busEvents := rfl
@[simp] theorem State.setDE_requests (s : State) (v : Word) : (s.setDE v).requests = s.requests := rfl
@[simp] theorem State.setDE_bpAddr (s : State) (v : Word) : (s.setDE v).bpAddr = s.bpAddr := rfl
@[simp] theorem State.setDE_bpEnabled (s : State) (v : Word) : (s.setDE v).bpEnabled = s.bpEnabled := rfl
@[simp] theorem State.setDE_cfg (s : State) (v : Word) : (s.setDE v).cfg = s.cfg := rfl

@[simp] theorem State.setHL_a (s : State) (v : Word) : (s.setHL v).a = s.a := rfl
@[simp] theorem State.setHL_f (s : State) (v : Word) : (s.setHL v).f = s.f := rfl
@[simp] theorem State.setHL_b (s : State) (v : Word) : (s.setHL v).b = s.b := rfl
@[simp] theorem State.setHL_c (s : State) (v : Word) : (s.setHL v).c = s.c := rfl
@[simp] theorem State.setHL_d (s : State) (v : Word) : (s.setHL v).d = s.d := rfl
@[simp] theorem State.setHL_e (s : State) (v : Word) : (s.setHL v).e = s.e := rfl
@[simp] theorem State.setHL_h (s : State) (v : Word) : (s.setHL v).h = hiByte v := rfl
@[simp] theorem State.setHL_l (s : State) (v : Word) : (s.setHL v).l = loByte v := rfl
@[simp] theorem State.setHL_sp (s : State) (v : Word) : (s.setHL v).sp = s.sp := rfl
@[simp] theorem State.setHL_pc (s : State) (v : Word) : (s.setHL v).pc = s.pc := rfl
@[simp] theorem State.setHL_instClocks (s : State) (v : Word) : (s.setHL v).instClocks = s.instClocks := rfl
@[simp] theorem State.setHL_ime (s : State) (v : Word) : (s.setHL v).ime = s.ime := rfl
@[simp] theorem State.setHL_isHalted (s : State) (v : Word) : (s.setHL v).isHalted = s.isHalted := rfl
@[simp] theorem State.setHL_haltBug (s : State) (v : Word) : (s.setHL v).haltBug = s.haltBug := rfl
@[simp] theorem State.setHL_eiImeEnable (s : State) (v : Word) : (s.setHL v).eiImeEnable = s.eiImeEnable := rfl
@[simp] theorem State.setHL_fault (s : State) (v : Word) : (s.setHL v).fault = s.fault := rfl
@[simp] theorem State.setHL_opAddr (s : State) (v : Word) : (s.setHL v).opAddr = s.opAddr := rfl
@[simp] theorem State.setHL_divcnt (s : State) (v : Word) : (s.setHL v).divcnt = s.divcnt := rfl
@[simp] theorem State.setHL_tima (s : State) (v : Word) : (s.setHL v).tima = s.tima := rfl
@[simp] theorem State.setHL_tma (s : State) (v : Word) : (s.setHL v).tma = s.tma := rfl
@[simp] theorem State.setHL_tac (s : State) (v : Word) : (s.setHL v).tac = s.tac := rfl
@[simp] theorem State.setHL_ifr (s : State) (v : Word) : (s.setHL v).ifr = s.ifr := rfl
@[simp] theorem State.setHL_ie (s : State) (v : Word) : (s.setHL v).ie = s.ie := rfl
@[simp] theorem State.setHL_mem (s : State) (v : Word) : (s.setHL v).mem = s.mem := rfl
@[simp] theorem State.setHL_busAnswers (s : State) (v : Word) : (s.setHL v).busAnswers = s.busAnswers := rfl
@[simp] theorem State.setHL_busEvents (s : State) (v : Word) : (s.setHL v).busEvents = s.busEvents := rfl
@[simp] theorem State.setHL_requests (s : State) (v : Word) : (s.setHL v).requests = s.requests := rfl
@[simp] theorem State.setHL_bpAddr (s : State) (v : Word) : (s.setHL v).bpAddr = s.bpAddr := rfl
@[simp] theorem State.setHL_bpEnabled (s : State) (v : Word) : (s.setHL v).bpEnabled = s.bpEnabled := rfl
@[simp] theorem State.setHL_cfg (s : State) (v : Word) : (s.setHL v).cfg = s.cfg := rfl

@[simp] theorem State.setFlags_a (s : State) (g : Flags) : (s.setFlags g).a = s.a := rfl
@[simp] theorem State.setFlags_f (s : State) (g : Flags) : (s.setFlags g).f = g.toByte := rfl
@[simp] theorem State.setFlags_b (s : State) (g : Flags) : (s.setFlags g).b = s.b := rfl
@[simp] theorem State.setFlags_c (s : State) (g : Flags) : (s.setFlags g).c = s.c := rfl
@[simp] theorem State.setFlags_d (s : State) (g : Flags) : (s.setFlags g).d = s.d := rfl
@[simp] theorem State.setFlags_e (s : State) (g : Flags) : (s.setFlags g).e = s.e := rfl
@[simp] theorem State.setFlags_h (s : State) (g : Flags) : (s.setFlags g).h = s.h := rfl
@[simp] theorem State.setFlags_l (s : State) (g : Flags) : (s.setFlags g).l = s.l := rfl
@[simp] theorem State.setFlags_sp (s : State) (g : Flags) : (s.setFlags g).sp = s.sp := rfl
@[simp] theorem State.setFlags_pc (s : State) (g : Flags) : (s.setFlags g).pc = s.pc := rfl
@[simp] theorem State.setFlags_instClocks (s : State) (g : Flags) : (s.setFlags g).instClocks = s.instClocks := rfl
@[simp] theorem State.setFlags_ime (s : State) (g : Flags) : (s.setFlags g).ime = s.ime := rfl
@[simp] theorem State.setFlags_isHalted (s : State) (g : Flags) : (s.setFlags g).isHalted = s.isHalted := rfl
@[simp] theorem State.setFlags_haltBug (s : State) (g : Flags) : (s.setFlags g).haltBug = s.haltBug := rfl
@[simp] theorem State.setFlags_eiImeEnable (s : State) (g : Flags) : (s.setFlags g).eiImeEnable = s.eiImeEnable := rfl
@[simp] theorem State.setFlags_fault (s : State) (g : Flags) : (s.setFlags g).fault = s.fault := rfl
@[simp] theorem State.setFlags_opAddr (s : State) (g : Flags) : (s.setFlags g).opAddr = s.opAddr := rfl
@[simp] theorem State.setFlags_divcnt (s : State) (g : Flags) : (s.setFlags g).divcnt = s.divcnt := rfl
@[simp] theorem State.setFlags_tima (s : State) (g : Flags) : (s.setFlags g).tima = s.tima := rfl
@[simp] theorem State.setFlags_tma (s : State) (g : Flags) : (s.setFlags g).tma = s.tma := rfl
@[simp] theorem State.setFlags_tac (s : State) (g : Flags) : (s.setFlags g).tac = s.tac := rfl
@[simp] theorem State.setFlags_ifr (s : State) (g : Flags) : (s.setFlags g).ifr = s.ifr := rfl
@[simp] theorem State.setFlags_ie (s : State) (g : Flags) : (s.setFlags g).ie = s.ie := rfl
@[simp] theorem State.setFlags_mem (s : State) (g : Flags) : (s.setFlags g).mem = s.mem := rfl
@[simp] theorem State.setFlags_busAnswers (s : State) (g : Flags) : (s.setFlags g).busAnswers = s.busAnswers := rfl
@[simp] theorem State.setFlags_busEvents (s : State) (g : Flags) : (s.setFlags g).busEvents = s.busEvents := rfl
@[simp] theorem State.setFlags_requests (s : State) (g : Flags) : (s.setFlags g).requests = s.requests := rfl
@[simp] theorem State.setFlags_bpAddr (s : State) (g : Flags) : (s.setFlags g).bpAddr = s.bpAddr := rfl
@[simp] theorem State.setFlags_bpEnabled (s : State) (g : Flags) : (s.setFlags g).bpEnabled = s.bpEnabled := rfl
@[simp] theorem State.setFlags_cfg (s : State) (g : Flags) : (s.setFlags g).cfg = s.cfg := rfl

@[simp] theorem State.setPair_a (s : State) (p : Pair) (v : Word) : (s.setPair p v).a = s.a := by cases p <;> rfl
@[simp] theorem State.setPair_f (s : State) (p : Pair) (v : Word) : (s.setPair p v).f = s.f := by cases p <;> rfl
@[simp] theorem State.setPair_pc (s : State) (p : Pair) (v : Word) : (s.setPair p v).pc = s.pc := by cases p <;> rfl
@[simp] theorem State.setPair_instClocks (s : State) (p : Pair) (v : Word) : (s.setPair p v).instClocks = s.instClocks := by cases p <;> rfl
@[simp] theorem State.setPair_ime (s : State) (p : Pair) (v : Word) : (s.setPair p v).ime = s.ime := by cases p <;> rfl
@[simp] theorem State.setPair_isHalted (s : State) (p : Pair) (v : Word) : (s.setPair p v).isHalted = s.isHalted := by cases p <;> rfl
@[simp] theorem State.setPair_haltBug (s : State) (p : Pair) (v : Word) : (s.setPair p v).haltBug = s.haltBug := by cases p <;> rfl
@[simp] theorem State.setPair_eiImeEnable (s : State) (p : Pair) (v : Word) : (s.setPair p v).eiImeEnable = s.eiImeEnable := by cases p <;> rfl
@[simp] theorem State.setPair_fault (s : State) (p : Pair) (v : Word) : (s.setPair p v).fault = s.fault := by cases p <;> rfl
@[simp] theorem State.setPair_opAddr (s : State) (p : Pair) (v : Word) : (s.setPair p v).opAddr = s.opAddr := by cases p <;> rfl
@[simp] theorem State.setPair_divcnt (s : State) (p : Pair) (v : Word) : (s.setPair p v).divcnt = s.divcnt := by cases p <;> rfl
@[simp] theorem State.setPair_tima (s : State) (p : Pair) (v : Word) : (s.setPair p v).tima = s.tima := by cases p <;> rfl
@[simp] theorem State.setPair_tma (s : State) (p : Pair) (v : Word) : (s.setPair p v).tma = s.tma := by cases p <;> rfl
@[simp] theorem State.setPair_tac (s : State) (p : Pair) (v : Word) : (s.setPair p v).tac = s.tac := by cases p <;> rfl
@[simp] theorem State.setPair_ifr (s : State) (p : Pair) (v : Word) : (s.setPair p v).ifr = s.ifr := by cases p <;> rfl
@[simp] theorem State.setPair_ie (s : State) (p : Pair) (v : Word) : (s.setPair p v).ie = s.ie := by cases p <;> rfl
@[simp] theorem State.setPair_mem (s : State) (p : Pair) (v : Word) : (s.setPair p v).mem = s.mem := by cases p <;> rfl
@[simp] theorem State.setPair_busAnswers (s : State) (p : Pair) (v : Word) : (s.setPair p v).busAnswers = s.busAnswers := by cases p <;> rfl
@[simp] theorem State.setPair_busEvents (s : State) (p : Pair) (v : Word) : (s.setPair p v).busEvents = s.busEvents := by cases p <;> rfl
@[simp] theorem State.setPair_requests (s : State) (p : Pair) (v : Word) : (s.setPair p v).requests = s.requests := by cases p <;> rfl
@[simp] theorem State.setPair_bpAddr (s : State) (p : Pair) (v : Word) : (s.setPair p v).bpAddr = s.bpAddr := by cases p <;> rfl
@[simp] theorem State.setPair_bpEnabled (s : State) (p : Pair) (v : Word) : (s.setPair p v).bpEnabled = s.bpEnabled := by cases p <;> rfl
@[simp] theorem State.setPair_cfg (s : State) (p : Pair) (v : Word) : (s.setPair p v).cfg = s.cfg := by cases p <;> rfl

@[simp] theorem State.setStackPair_sp (s : State) (p : StackPair) (v : Word) : (s.setStackPair p v).sp = s.sp := by cases p <;> rfl
@[simp] theorem State.setStackPair_pc (s : State) (p : StackPair) (v : Word) : (s.setStackPair p v).pc = s.pc := by cases p <;> rfl
@[simp] theorem State.setStackPair_instClocks (s : State) (p : StackPair) (v : Word) : (s.setStackPair p v).instClocks = s.instClocks := by cases p <;> rfl
@[simp] theorem State.setStackPair_ime (s : State) (p : StackPair) (v : Word) : (s.setStackPair p v).ime = s.ime := by cases p <;> rfl
@[simp] theorem State.setStackPair_isHalted (s : State) (p : StackPair) (v : Word) : (s.setStackPair p v).isHalted = s.isHalted := by cases p <;> rfl
@[simp] theorem State.setStackPair_haltBug (s : State) (p : StackPair) (v : Word) : (s.setStackPair p v).haltBug = s.haltBug := by cases p <;> rfl
@[simp] theorem State.setStackPair_eiImeEnable (s : State) (p : StackPair) (v : Word) : (s.setStackPair p v).eiImeEnable = s.eiImeEnable := by cases p <;> rfl
@[simp] theorem State.setStackPair_fault (s : State) (p : StackPair) (v : Word) : (s.setStackPair p v).fault = s.fault := by cases p <;> rfl
@[simp] theorem State.setStackPair_opAddr (s : State) (p : StackPair) (v : Word) : (s.setStackPair p v).opAddr = s.opAddr := by cases p <;> rfl
@[simp] theorem State.setStackPair_divcnt (s : State) (p : StackPair) (v : Word) : (s.setStackPair p v).divcnt = s.divcnt := by cases p <;> rfl
@[simp] theorem State.setStackPair_tima (s : State) (p : StackPair) (v : Word) : (s.setStackPair p v).tima = s.tima := by cases p <;> rfl
@[simp] theorem State.setStackPair_tma (s : State) (p : StackPair) (v : Word) : (s.setStackPair p v).tma = s.tma := by cases p <;> rfl
@[simp] theorem State.setStackPair_tac (s : State) (p : StackPair) (v : Word) : (s.setStackPair p v).tac = s.tac := by cases p <;> rfl
@[simp] theorem State.setStackPair_ifr (s : State) (p : StackPair) (v : Word) : (s.setStackPair p v).ifr = s.ifr := by cases p <;> rfl
@[simp] theorem State.setStackPair_ie (s : State) (p : StackPair) (v : Word) : (s.setStackPair p v).ie = s.ie := by cases p <;> rfl
@[simp] theorem State.setStackPair_mem (s : State) (p : StackPair) (v : Word) : (s.setStackPair p v).mem = s.mem := by cases p <;> rfl
@[simp] theorem State.setStackPair_busAnswers (s : State) (p : StackPair) (v : Word) : (s.setStackPair p v).busAnswers = s.busAnswers := by cases p <;> rfl
@[simp] theorem State.setStackPair_busEvents (s : State) (p : StackPair) (v : Word) : (s.setStackPair p v).busEvents = s.busEvents := by cases p <;> rfl
@[simp] theorem State.setStackPair_requests (s : State) (p : StackPair) (v : Word) : (s.setStackPair p v).requests = s.requests := by cases p <;> rfl
@[simp] theorem State.setStackPair_bpAddr (s : State) (p : StackPair) (v : Word) : (s.setStackPair p v).bpAddr = s.bpAddr := by cases p <;> rfl
@[simp] theorem State.setStackPair_bpEnabled (s : State) (p : StackPair) (v : Word) : (s.setStackPair p v).bpEnabled = s.bpEnabled := by cases p <;> rfl
@[simp] theorem State.setStackPair_cfg (s : State) (p : StackPair) (v : Word) : (s.setStackPair p v).cfg = s.cfg := by cases p <;> rfl

@[simp] theorem State.reg_setReg (s : State) (r q : Reg8) (v : Byte) :
    (s.setReg r v).reg q = if q = r then v else s.reg q := by
  cases r <;> cases q <;> rfl

@[simp] theorem State.reg_setFlags (s : State) (g : Flags) (r : Reg8) : (s.setFlags g).reg r = s.reg r := by
  cases r <;> rfl

theorem joinBytes_toNat (hi lo : Byte) : (joinBytes hi lo).toNat = 256 * hi.toNat + lo.toNat := by
  have h := lo.isLt
  rw [joinBytes, BitVec.toNat_append, Nat.shiftLeft_eq, Nat.mul_comm, ← Nat.two_pow_add_eq_or_of_lt h]

theorem hiByte_joinBytes (hi lo : Byte) : hiByte (joinBytes hi lo) = hi := by
  apply BitVec.eq_of_toNat_eq
  rw [hiByte, BitVec.extractLsb'_toNat, joinBytes_toNat, Nat.shiftRight_eq_div_pow]
  omega

theorem loByte_joinBytes (hi lo : Byte) : loByte (joinBytes hi lo) = lo := by
  apply BitVec.eq_of_toNat_eq
  rw [loByte, BitVec.extractLsb'_toNat, joinBytes_toNat, Nat.shiftRight_eq_div_pow]
  omega

theorem joinBytes_hi_lo (v : Word) : joinBytes (hiByte v) (loByte v) = v := by
  apply BitVec.eq_of_toNat_eq
  rw [joinBytes_toNat, hiByte, loByte, BitVec.extractLsb'_toNat, BitVec.extractLsb'_toNat, Nat.shiftRight_eq_div_pow,
    Nat.shiftRight_eq_div_pow]
  omega

/-- The step down of a pair, as the rules write it. -/
theorem add_neg_one (v : Word) : v + -1#16 = v - 1#16 := (BitVec.sub_eq_add_neg v 1#16).symm

@[simp] theorem State.bc_setBC (s : State) (v : Word) : (s.setBC v).bc = v := joinBytes_hi_lo v

@[simp] theorem State.de_setDE (s : State) (v : Word) : (s.setDE v).de = v := joinBytes_hi_lo v

@[simp] theorem State.hl_setHL (s : State) (v : Word) : (s.setHL v).hl = v := joinBytes_hi_lo v

/-- F's low nibble is zero after every flag update (R33). -/
theorem Flags.toByte_low (g : Flags) : g.toByte &&& 0x0F#8 = 0x00#8 := by
  rcases g with ⟨z, n, h, c⟩
  cases z <;> cases n <;> cases h <;> cases c <;> decide

/-- The flags written are the flags read back. -/
@[simp] theorem Flags.ofByte_toByte (g : Flags) : Flags.ofByte g.toByte = g := by
  rcases g with ⟨z, n, h, c⟩
  cases z <;> cases n <;> cases h <;> cases c <;> decide

@[simp] theorem State.flags_setFlags (s : State) (g : Flags) : (s.setFlags g).flags = g :=
  Flags.ofByte_toByte g

/-- F's low nibble is zero after `POP AF` (R33, R166). -/
theorem maskF_low (v : Byte) : maskF v &&& 0x0F#8 = 0x00#8 := by
  have h : (0xF0#8 &&& 0x0F#8) = 0x00#8 := by decide
  rw [maskF, BitVec.and_assoc, h, BitVec.and_zero]

end Sys2Proof.Machine
end

