-- ==== Sys2Proof/Laws/Bus.lean ====
section
/-! SUPPORT. The bus operations: what `memWrite` and `memRead` leave alone, what a read of one byte (`peek`) gives after them, and
that they keep the store's canonical form. -/

namespace Sys2Proof.Machine

/-- The address of each in-block register (R72). -/
def IoReg.addr : IoReg → Word
  | .div => 0xFF04#16
  | .tima => 0xFF05#16
  | .tma => 0xFF06#16
  | .tac => 0xFF07#16
  | .ifr => 0xFF0F#16
  | .ie => 0xFFFF#16

@[simp] theorem ioRegAt_addr (r : IoReg) : ioRegAt r.addr = some r := by
  cases r <;> decide

theorem ioRegAt_some {addr : Word} {r : IoReg} (h : ioRegAt addr = some r) : addr = r.addr := by
  unfold ioRegAt at h
  repeat' split at h
  all_goals cases h
  all_goals assumption

/-! ## `memWrite` -/

@[simp] theorem memWrite_a (addr : Word) (v : Byte) (s : State) : (memWrite addr v s).a = s.a := by
  unfold memWrite; split <;> [(rename_i r _; cases r <;> rfl); rfl]

@[simp] theorem memWrite_f (addr : Word) (v : Byte) (s : State) : (memWrite addr v s).f = s.f := by
  unfold memWrite; split <;> [(rename_i r _; cases r <;> rfl); rfl]

@[simp] theorem memWrite_b (addr : Word) (v : Byte) (s : State) : (memWrite addr v s).b = s.b := by
  unfold memWrite; split <;> [(rename_i r _; cases r <;> rfl); rfl]

@[simp] theorem memWrite_c (addr : Word) (v : Byte) (s : State) : (memWrite addr v s).c = s.c := by
  unfold memWrite; split <;> [(rename_i r _; cases r <;> rfl); rfl]

@[simp] theorem memWrite_d (addr : Word) (v : Byte) (s : State) : (memWrite addr v s).d = s.d := by
  unfold memWrite; split <;> [(rename_i r _; cases r <;> rfl); rfl]

@[simp] theorem memWrite_e (addr : Word) (v : Byte) (s : State) : (memWrite addr v s).e = s.e := by
  unfold memWrite; split <;> [(rename_i r _; cases r <;> rfl); rfl]

@[simp] theorem memWrite_h (addr : Word) (v : Byte) (s : State) : (memWrite addr v s).h = s.h := by
  unfold memWrite; split <;> [(rename_i r _; cases r <;> rfl); rfl]

@[simp] theorem memWrite_l (addr : Word) (v : Byte) (s : State) : (memWrite addr v s).l = s.l := by
  unfold memWrite; split <;> [(rename_i r _; cases r <;> rfl); rfl]

@[simp] theorem memWrite_sp (addr : Word) (v : Byte) (s : State) : (memWrite addr v s).sp = s.sp := by
  unfold memWrite; split <;> [(rename_i r _; cases r <;> rfl); rfl]

@[simp] theorem memWrite_pc (addr : Word) (v : Byte) (s : State) : (memWrite addr v s).pc = s.pc := by
  unfold memWrite; split <;> [(rename_i r _; cases r <;> rfl); rfl]

@[simp] theorem memWrite_instClocks (addr : Word) (v : Byte) (s : State) : (memWrite addr v s).instClocks = s.instClocks := by
  unfold memWrite; split <;> [(rename_i r _; cases r <;> rfl); rfl]

@[simp] theorem memWrite_ime (addr : Word) (v : Byte) (s : State) : (memWrite addr v s).ime = s.ime := by
  unfold memWrite; split <;> [(rename_i r _; cases r <;> rfl); rfl]

@[simp] theorem memWrite_isHalted (addr : Word) (v : Byte) (s : State) : (memWrite addr v s).isHalted = s.isHalted := by
  unfold memWrite; split <;> [(rename_i r _; cases r <;> rfl); rfl]

@[simp] theorem memWrite_haltBug (addr : Word) (v : Byte) (s : State) : (memWrite addr v s).haltBug = s.haltBug := by
  unfold memWrite; split <;> [(rename_i r _; cases r <;> rfl); rfl]

@[simp] theorem memWrite_eiImeEnable (addr : Word) (v : Byte) (s : State) : (memWrite addr v s).eiImeEnable = s.eiImeEnable := by
  unfold memWrite; split <;> [(rename_i r _; cases r <;> rfl); rfl]

@[simp] theorem memWrite_fault (addr : Word) (v : Byte) (s : State) : (memWrite addr v s).fault = s.fault := by
  unfold memWrite; split <;> [(rename_i r _; cases r <;> rfl); rfl]

@[simp] theorem memWrite_opAddr (addr : Word) (v : Byte) (s : State) : (memWrite addr v s).opAddr = s.opAddr := by
  unfold memWrite; split <;> [(rename_i r _; cases r <;> rfl); rfl]

@[simp] theorem memWrite_busAnswers (addr : Word) (v : Byte) (s : State) : (memWrite addr v s).busAnswers = s.busAnswers := by
  unfold memWrite; split <;> [(rename_i r _; cases r <;> rfl); rfl]

@[simp] theorem memWrite_requests (addr : Word) (v : Byte) (s : State) : (memWrite addr v s).requests = s.requests := by
  unfold memWrite; split <;> [(rename_i r _; cases r <;> rfl); rfl]

@[simp] theorem memWrite_bpAddr (addr : Word) (v : Byte) (s : State) : (memWrite addr v s).bpAddr = s.bpAddr := by
  unfold memWrite; split <;> [(rename_i r _; cases r <;> rfl); rfl]

@[simp] theorem memWrite_bpEnabled (addr : Word) (v : Byte) (s : State) : (memWrite addr v s).bpEnabled = s.bpEnabled := by
  unfold memWrite; split <;> [(rename_i r _; cases r <;> rfl); rfl]

@[simp] theorem memWrite_cfg (addr : Word) (v : Byte) (s : State) : (memWrite addr v s).cfg = s.cfg := by
  unfold memWrite; split <;> [(rename_i r _; cases r <;> rfl); rfl]

@[simp] theorem reg_memWrite (addr : Word) (v : Byte) (s : State) (r : Reg8) : (memWrite addr v s).reg r = s.reg r := by
  cases r <;> simp [State.reg]

theorem memWrite_mem (addr : Word) (v : Byte) (s : State) :
    (memWrite addr v s).mem = if ioRegAt addr = none then s.mem.write addr.toNat v else s.mem := by
  unfold memWrite
  split
  · rename_i r h
    rw [if_neg (by simp [h])]
    cases r <;> rfl
  · rename_i h
    rw [if_pos h]
    rfl

/-- An in-block register changes by a write to its own address alone (R73). -/
theorem memWrite_io {addr : Word} (v : Byte) (s : State) :
    (addr ≠ 0xFF04#16 → (memWrite addr v s).divcnt = s.divcnt) ∧ (addr ≠ 0xFF05#16 → (memWrite addr v s).tima = s.tima) ∧
    (addr ≠ 0xFF06#16 → (memWrite addr v s).tma = s.tma) ∧ (addr ≠ 0xFF07#16 → (memWrite addr v s).tac = s.tac) ∧
    (addr ≠ 0xFF0F#16 → (memWrite addr v s).ifr = s.ifr) ∧ (addr ≠ 0xFFFF#16 → (memWrite addr v s).ie = s.ie) := by
  unfold memWrite
  split
  · rename_i r h
    have hr := ioRegAt_some h
    subst hr
    cases r <;> simp [writeIo, IoReg.addr]
  · simp [extWrite]

/-- Every write keeps the canonical form (R71, R75). -/
theorem memWrite_wf (addr : Word) (v : Byte) {s : State} (h : s.mem.wf = true) : (memWrite addr v s).mem.wf = true := by
  rw [memWrite_mem]
  split
  · exact Memory.wf_write h (externalAddr_toNat ‹_›) v
  · exact h

/-- A write leaves what every other address holds. -/
theorem peek_memWrite_other {addr x : Word} (v : Byte) (s : State) (h : x ≠ addr) :
    (memWrite addr v s).peek x = s.peek x := by
  have hio := memWrite_io (addr := addr) v s
  have hne : x.toNat ≠ addr.toNat := fun he => h (BitVec.eq_of_toNat_eq he)
  unfold State.peek
  cases hx : ioRegAt x with
  | none =>
    simp only [memWrite_mem]
    split
    · exact Memory.read_write_other v hne
    · rfl
  | some r =>
    have hr := ioRegAt_some hx
    subst hr
    cases r <;> simp only [readIo, IoReg.addr] at h ⊢ <;> simp [hio, Ne.symm h]

/-- A write followed by a look at an external address gives the byte written. -/
theorem peek_memWrite_self {addr : Word} (v : Byte) {s : State} (hm : s.mem.wf = true) (h : ioRegAt addr = none) :
    (memWrite addr v s).peek addr = v := by
  simp [State.peek, h, memWrite_mem, Memory.read_write hm]

theorem memWrite_with_a (addr : Word) (v : Byte) (s : State) (x : Byte) :
    memWrite addr v { s with a := x } = { memWrite addr v s with a := x } := by
  unfold memWrite; split <;> [(rename_i r _; cases r <;> rfl); rfl]

theorem memWrite_with_f (addr : Word) (v : Byte) (s : State) (x : Byte) :
    memWrite addr v { s with f := x } = { memWrite addr v s with f := x } := by
  unfold memWrite; split <;> [(rename_i r _; cases r <;> rfl); rfl]

theorem memWrite_with_b (addr : Word) (v : Byte) (s : State) (x : Byte) :
    memWrite addr v { s with b := x } = { memWrite addr v s with b := x } := by
  unfold memWrite; split <;> [(rename_i r _; cases r <;> rfl); rfl]

theorem memWrite_with_c (addr : Word) (v : Byte) (s : State) (x : Byte) :
    memWrite addr v { s with c := x } = { memWrite addr v s with c := x } := by
  unfold memWrite; split <;> [(rename_i r _; cases r <;> rfl); rfl]

theorem memWrite_with_d (addr : Word) (v : Byte) (s : State) (x : Byte) :
    memWrite addr v { s with d := x } = { memWrite addr v s with d := x } := by
  unfold memWrite; split <;> [(rename_i r _; cases r <;> rfl); rfl]

theorem memWrite_with_e (addr : Word) (v : Byte) (s : State) (x : Byte) :
    memWrite addr v { s with e := x } = { memWrite addr v s with e := x } := by
  unfold memWrite; split <;> [(rename_i r _; cases r <;> rfl); rfl]

theorem memWrite_with_h (addr : Word) (v : Byte) (s : State) (x : Byte) :
    memWrite addr v { s with h := x } = { memWrite addr v s with h := x } := by
  unfold memWrite; split <;> [(rename_i r _; cases r <;> rfl); rfl]

theorem memWrite_with_l (addr : Word) (v : Byte) (s : State) (x : Byte) :
    memWrite addr v { s with l := x } = { memWrite addr v s with l := x } := by
  unfold memWrite; split <;> [(rename_i r _; cases r <;> rfl); rfl]

theorem memWrite_with_sp (addr : Word) (v : Byte) (s : State) (x : Word) :
    memWrite addr v { s with sp := x } = { memWrite addr v s with sp := x } := by
  unfold memWrite; split <;> [(rename_i r _; cases r <;> rfl); rfl]

theorem memWrite_with_pc (addr : Word) (v : Byte) (s : State) (x : Word) :
    memWrite addr v { s with pc := x } = { memWrite addr v s with pc := x } := by
  unfold memWrite; split <;> [(rename_i r _; cases r <;> rfl); rfl]

theorem memWrite_with_instClocks (addr : Word) (v : Byte) (s : State) (x : Nat) :
    memWrite addr v { s with instClocks := x } = { memWrite addr v s with instClocks := x } := by
  unfold memWrite; split <;> [(rename_i r _; cases r <;> rfl); rfl]

theorem memWrite_with_ime (addr : Word) (v : Byte) (s : State) (x : Bool) :
    memWrite addr v { s with ime := x } = { memWrite addr v s with ime := x } := by
  unfold memWrite; split <;> [(rename_i r _; cases r <;> rfl); rfl]

theorem memWrite_with_isHalted (addr : Word) (v : Byte) (s : State) (x : Bool) :
    memWrite addr v { s with isHalted := x } = { memWrite addr v s with isHalted := x } := by
  unfold memWrite; split <;> [(rename_i r _; cases r <;> rfl); rfl]

theorem memWrite_with_haltBug (addr : Word) (v : Byte) (s : State) (x : Bool) :
    memWrite addr v { s with haltBug := x } = { memWrite addr v s with haltBug := x } := by
  unfold memWrite; split <;> [(rename_i r _; cases r <;> rfl); rfl]

theorem memWrite_with_eiImeEnable (addr : Word) (v : Byte) (s : State) (x : Bool) :
    memWrite addr v { s with eiImeEnable := x } = { memWrite addr v s with eiImeEnable := x } := by
  unfold memWrite; split <;> [(rename_i r _; cases r <;> rfl); rfl]

theorem memWrite_with_fault (addr : Word) (v : Byte) (s : State) (x : Option FaultRecord) :
    memWrite addr v { s with fault := x } = { memWrite addr v s with fault := x } := by
  unfold memWrite; split <;> [(rename_i r _; cases r <;> rfl); rfl]

theorem memWrite_with_opAddr (addr : Word) (v : Byte) (s : State) (x : Word) :
    memWrite addr v { s with opAddr := x } = { memWrite addr v s with opAddr := x } := by
  unfold memWrite; split <;> [(rename_i r _; cases r <;> rfl); rfl]

/-! ## `memRead` -/

@[simp] theorem memRead_a (addr : Word) (s : State) : (memRead addr s).2.a = s.a := by
  unfold memRead; split <;> rfl

@[simp] theorem memRead_f (addr : Word) (s : State) : (memRead addr s).2.f = s.f := by
  unfold memRead; split <;> rfl

@[simp] theorem memRead_b (addr : Word) (s : State) : (memRead addr s).2.b = s.b := by
  unfold memRead; split <;> rfl

@[simp] theorem memRead_c (addr : Word) (s : State) : (memRead addr s).2.c = s.c := by
  unfold memRead; split <;> rfl

@[simp] theorem memRead_d (addr : Word) (s : State) : (memRead addr s).2.d = s.d := by
  unfold memRead; split <;> rfl

@[simp] theorem memRead_e (addr : Word) (s : State) : (memRead addr s).2.e = s.e := by
  unfold memRead; split <;> rfl

@[simp] theorem memRead_h (addr : Word) (s : State) : (memRead addr s).2.h = s.h := by
  unfold memRead; split <;> rfl

@[simp] theorem memRead_l (addr : Word) (s : State) : (memRead addr s).2.l = s.l := by
  unfold memRead; split <;> rfl

@[simp] theorem memRead_sp (addr : Word) (s : State) : (memRead addr s).2.sp = s.sp := by
  unfold memRead; split <;> rfl

@[simp] theorem memRead_pc (addr : Word) (s : State) : (memRead addr s).2.pc = s.pc := by
  unfold memRead; split <;> rfl

@[simp] theorem memRead_instClocks (addr : Word) (s : State) : (memRead addr s).2.instClocks = s.instClocks := by
  unfold memRead; split <;> rfl

@[simp] theorem memRead_ime (addr : Word) (s : State) : (memRead addr s).2.ime = s.ime := by
  unfold memRead; split <;> rfl

@[simp] theorem memRead_isHalted (addr : Word) (s : State) : (memRead addr s).2.isHalted = s.isHalted := by
  unfold memRead; split <;> rfl

@[simp] theorem memRead_haltBug (addr : Word) (s : State) : (memRead addr s).2.haltBug = s.haltBug := by
  unfold memRead; split <;> rfl

@[simp] theorem memRead_eiImeEnable (addr : Word) (s : State) : (memRead addr s).2.eiImeEnable = s.eiImeEnable := by
  unfold memRead; split <;> rfl

@[simp] theorem memRead_fault (addr : Word) (s : State) : (memRead addr s).2.fault = s.fault := by
  unfold memRead; split <;> rfl

@[simp] theorem memRead_opAddr (addr : Word) (s : State) : (memRead addr s).2.opAddr = s.opAddr := by
  unfold memRead; split <;> rfl

@[simp] theorem memRead_divcnt (addr : Word) (s : State) : (memRead addr s).2.divcnt = s.divcnt := by
  unfold memRead; split <;> rfl

@[simp] theorem memRead_tima (addr : Word) (s : State) : (memRead addr s).2.tima = s.tima := by
  unfold memRead; split <;> rfl

@[simp] theorem memRead_tma (addr : Word) (s : State) : (memRead addr s).2.tma = s.tma := by
  unfold memRead; split <;> rfl

@[simp] theorem memRead_tac (addr : Word) (s : State) : (memRead addr s).2.tac = s.tac := by
  unfold memRead; split <;> rfl

@[simp] theorem memRead_ifr (addr : Word) (s : State) : (memRead addr s).2.ifr = s.ifr := by
  unfold memRead; split <;> rfl

@[simp] theorem memRead_ie (addr : Word) (s : State) : (memRead addr s).2.ie = s.ie := by
  unfold memRead; split <;> rfl

@[simp] theorem memRead_mem (addr : Word) (s : State) : (memRead addr s).2.mem = s.mem := by
  unfold memRead; split <;> rfl

@[simp] theorem memRead_requests (addr : Word) (s : State) : (memRead addr s).2.requests = s.requests := by
  unfold memRead; split <;> rfl

@[simp] theorem memRead_bpAddr (addr : Word) (s : State) : (memRead addr s).2.bpAddr = s.bpAddr := by
  unfold memRead; split <;> rfl

@[simp] theorem memRead_bpEnabled (addr : Word) (s : State) : (memRead addr s).2.bpEnabled = s.bpEnabled := by
  unfold memRead; split <;> rfl

@[simp] theorem memRead_cfg (addr : Word) (s : State) : (memRead addr s).2.cfg = s.cfg := by
  unfold memRead; split <;> rfl

@[simp] theorem reg_memRead (addr : Word) (s : State) (r : Reg8) : (memRead addr s).2.reg r = s.reg r := by
  cases r <;> simp [State.reg]

/-- What an address holds depends on the six in-block registers and the store alone. -/
theorem peek_congr {s t : State} (x : Word) (h : t.divcnt = s.divcnt ∧ t.tima = s.tima ∧ t.tma = s.tma ∧ t.tac = s.tac ∧
    t.ifr = s.ifr ∧ t.ie = s.ie ∧ t.mem = s.mem) : t.peek x = s.peek x := by
  unfold State.peek
  split
  · rename_i r _
    cases r <;> simp [readIo, h]
  · rw [h.2.2.2.2.2.2]

@[simp] theorem peek_memRead (addr x : Word) (s : State) : (memRead addr s).2.peek x = s.peek x :=
  peek_congr x (by simp)

/-- Where no answer is scripted, a read answers what the address holds. -/
theorem memRead_eq_peek (addr : Word) {s : State} (h : s.busAnswers = []) : (memRead addr s).1 = s.peek addr := by
  unfold memRead State.peek
  split
  · rfl
  · simp [extRead, h]

/-- A read takes at most the first scripted answer. -/
theorem memRead_busAnswers_nil (addr : Word) {s : State} (h : s.busAnswers = []) : (memRead addr s).2.busAnswers = [] := by
  unfold memRead
  split
  · exact h
  · simp [extRead, h]

theorem memRead_with_a (addr : Word) (s : State) (x : Byte) :
    memRead addr { s with a := x } = ((memRead addr s).1, { (memRead addr s).2 with a := x }) := by
  unfold memRead; split <;> [(rename_i r _; cases r <;> rfl); rfl]

theorem memRead_with_f (addr : Word) (s : State) (x : Byte) :
    memRead addr { s with f := x } = ((memRead addr s).1, { (memRead addr s).2 with f := x }) := by
  unfold memRead; split <;> [(rename_i r _; cases r <;> rfl); rfl]

theorem memRead_with_b (addr : Word) (s : State) (x : Byte) :
    memRead addr { s with b := x } = ((memRead addr s).1, { (memRead addr s).2 with b := x }) := by
  unfold memRead; split <;> [(rename_i r _; cases r <;> rfl); rfl]

theorem memRead_with_c (addr : Word) (s : State) (x : Byte) :
    memRead addr { s with c := x } = ((memRead addr s).1, { (memRead addr s).2 with c := x }) := by
  unfold memRead; split <;> [(rename_i r _; cases r <;> rfl); rfl]

theorem memRead_with_d (addr : Word) (s : State) (x : Byte) :
    memRead addr { s with d := x } = ((memRead addr s).1, { (memRead addr s).2 with d := x }) := by
  unfold memRead; split <;> [(rename_i r _; cases r <;> rfl); rfl]

theorem memRead_with_e (addr : Word) (s : State) (x : Byte) :
    memRead addr { s with e := x } = ((memRead addr s).1, { (memRead addr s).2 with e := x }) := by
  unfold memRead; split <;> [(rename_i r _; cases r <;> rfl); rfl]

theorem memRead_with_h (addr : Word) (s : State) (x : Byte) :
    memRead addr { s with h := x } = ((memRead addr s).1, { (memRead addr s).2 with h := x }) := by
  unfold memRead; split <;> [(rename_i r _; cases r <;> rfl); rfl]

theorem memRead_with_l (addr : Word) (s : State) (x : Byte) :
    memRead addr { s with l := x } = ((memRead addr s).1, { (memRead addr s).2 with l := x }) := by
  unfold memRead; split <;> [(rename_i r _; cases r <;> rfl); rfl]

theorem memRead_with_sp (addr : Word) (s : State) (x : Word) :
    memRead addr { s with sp := x } = ((memRead addr s).1, { (memRead addr s).2 with sp := x }) := by
  unfold memRead; split <;> [(rename_i r _; cases r <;> rfl); rfl]

theorem memRead_with_pc (addr : Word) (s : State) (x : Word) :
    memRead addr { s with pc := x } = ((memRead addr s).1, { (memRead addr s).2 with pc := x }) := by
  unfold memRead; split <;> [(rename_i r _; cases r <;> rfl); rfl]

theorem memRead_with_instClocks (addr : Word) (s : State) (x : Nat) :
    memRead addr { s with instClocks := x } = ((memRead addr s).1, { (memRead addr s).2 with instClocks := x }) := by
  unfold memRead; split <;> [(rename_i r _; cases r <;> rfl); rfl]

theorem memRead_with_ime (addr : Word) (s : State) (x : Bool) :
    memRead addr { s with ime := x } = ((memRead addr s).1, { (memRead addr s).2 with ime := x }) := by
  unfold memRead; split <;> [(rename_i r _; cases r <;> rfl); rfl]

theorem memRead_with_isHalted (addr : Word) (s : State) (x : Bool) :
    memRead addr { s with isHalted := x } = ((memRead addr s).1, { (memRead addr s).2 with isHalted := x }) := by
  unfold memRead; split <;> [(rename_i r _; cases r <;> rfl); rfl]

theorem memRead_with_haltBug (addr : Word) (s : State) (x : Bool) :
    memRead addr { s with haltBug := x } = ((memRead addr s).1, { (memRead addr s).2 with haltBug := x }) := by
  unfold memRead; split <;> [(rename_i r _; cases r <;> rfl); rfl]

theorem memRead_with_eiImeEnable (addr : Word) (s : State) (x : Bool) :
    memRead addr { s with eiImeEnable := x } = ((memRead addr s).1, { (memRead addr s).2 with eiImeEnable := x }) := by
  unfold memRead; split <;> [(rename_i r _; cases r <;> rfl); rfl]

theorem memRead_with_fault (addr : Word) (s : State) (x : Option FaultRecord) :
    memRead addr { s with fault := x } = ((memRead addr s).1, { (memRead addr s).2 with fault := x }) := by
  unfold memRead; split <;> [(rename_i r _; cases r <;> rfl); rfl]

theorem memRead_with_opAddr (addr : Word) (s : State) (x : Word) :
    memRead addr { s with opAddr := x } = ((memRead addr s).1, { (memRead addr s).2 with opAddr := x }) := by
  unfold memRead; split <;> [(rename_i r _; cases r <;> rfl); rfl]

end Sys2Proof.Machine
end

