-- ==== Sys2Proof/Laws/Views.lean ====
section
/-! SUPPORT. Every instruction is a value of one of the views of Decode.lean or one of the instructions that stand alone: the
case split family by family, for proofs about all instructions. -/

namespace Sys2Proof

/-- To prove something of every instruction, prove it of each view and of each instruction that stands alone. -/
theorem Instr.byView {motive : Instr → Prop}
    (ldRegReg : ∀ r src, motive (.ldRegReg r src))
    (ldRegImm : ∀ r n, motive (.ldRegImm r n))
    (ldRegAtHL : ∀ r, motive (.ldRegAtHL r))
    (ldAtHLReg : ∀ r, motive (.ldAtHLReg r))
    (ldPairImm : ∀ p nn, motive (.ldPairImm p nn))
    (push : ∀ p, motive (.push p))
    (pop : ∀ p, motive (.pop p))
    (aluReg : ∀ op t, motive (.aluReg op t))
    (aluImm : ∀ op n, motive (.aluImm op n))
    (incReg : ∀ r, motive (.incReg r))
    (decReg : ∀ r, motive (.decReg r))
    (addHLPair : ∀ p, motive (.addHLPair p))
    (incPair : ∀ p, motive (.incPair p))
    (decPair : ∀ p, motive (.decPair p))
    (jpCond : ∀ cc nn, motive (.jpCond cc nn))
    (jrCond : ∀ cc e, motive (.jrCond cc e))
    (callCond : ∀ cc nn, motive (.callCond cc nn))
    (retCond : ∀ cc, motive (.retCond cc))
    (rst : ∀ k, motive (.rst k))
    (rotate : ∀ op t, motive (.rotate op t))
    (bit : ∀ k t, motive (.bit k t))
    (res : ∀ k t, motive (.res k t))
    (set : ∀ k t, motive (.set k t))
    (nop : motive .nop)
    (ldAtBCA : motive .ldAtBCA)
    (rlca : motive .rlca)
    (ldAtNnSP : ∀ nn, motive (.ldAtNnSP nn))
    (ldAAtBC : motive .ldAAtBC)
    (rrca : motive .rrca)
    (stop : ∀ n, motive (.stop n))
    (ldAtDEA : motive .ldAtDEA)
    (rla : motive .rla)
    (jrE : ∀ e, motive (.jrE e))
    (ldAAtDE : motive .ldAAtDE)
    (rra : motive .rra)
    (ldAtHLIncA : motive .ldAtHLIncA)
    (daa : motive .daa)
    (ldAAtHLInc : motive .ldAAtHLInc)
    (cpl : motive .cpl)
    (ldAtHLDecA : motive .ldAtHLDecA)
    (incAtHL : motive .incAtHL)
    (decAtHL : motive .decAtHL)
    (ldAtHLN : ∀ n, motive (.ldAtHLN n))
    (scf : motive .scf)
    (ldAAtHLDec : motive .ldAAtHLDec)
    (ccf : motive .ccf)
    (halt : motive .halt)
    (jpNn : ∀ nn, motive (.jpNn nn))
    (ret : motive .ret)
    (prefixCB : ∀ cb, motive (.prefixCB cb))
    (callNn : ∀ nn, motive (.callNn nn))
    (invalidD3 : motive .invalidD3)
    (reti : motive .reti)
    (invalidDB : motive .invalidDB)
    (invalidDD : motive .invalidDD)
    (ldhAtNA : ∀ n, motive (.ldhAtNA n))
    (ldAtCA : motive .ldAtCA)
    (invalidE3 : motive .invalidE3)
    (invalidE4 : motive .invalidE4)
    (addSPE : ∀ e, motive (.addSPE e))
    (jpHL : motive .jpHL)
    (ldAtNnA : ∀ nn, motive (.ldAtNnA nn))
    (invalidEB : motive .invalidEB)
    (invalidEC : motive .invalidEC)
    (invalidED : motive .invalidED)
    (ldhAAtN : ∀ n, motive (.ldhAAtN n))
    (ldAAtC : motive .ldAAtC)
    (di : motive .di)
    (invalidF4 : motive .invalidF4)
    (ldHLSPE : ∀ e, motive (.ldHLSPE e))
    (ldSPHL : motive .ldSPHL)
    (ldAAtNn : ∀ nn, motive (.ldAAtNn nn))
    (ei : motive .ei)
    (invalidFC : motive .invalidFC)
    (invalidFD : motive .invalidFD)
    : ∀ i, motive i
  | .nop => nop
  | .ldBCNn nn => ldPairImm .bc nn
  | .ldAtBCA => ldAtBCA
  | .incBC => incPair .bc
  | .incB => incReg .b
  | .decB => decReg .b
  | .ldBN n => ldRegImm .b n
  | .rlca => rlca
  | .ldAtNnSP nn => ldAtNnSP nn
  | .addHLBC => addHLPair .bc
  | .ldAAtBC => ldAAtBC
  | .decBC => decPair .bc
  | .incC => incReg .c
  | .decC => decReg .c
  | .ldCN n => ldRegImm .c n
  | .rrca => rrca
  | .stop n => stop n
  | .ldDENn nn => ldPairImm .de nn
  | .ldAtDEA => ldAtDEA
  | .incDE => incPair .de
  | .incD => incReg .d
  | .decD => decReg .d
  | .ldDN n => ldRegImm .d n
  | .rla => rla
  | .jrE e => jrE e
  | .addHLDE => addHLPair .de
  | .ldAAtDE => ldAAtDE
  | .decDE => decPair .de
  | .incE => incReg .e
  | .decE => decReg .e
  | .ldEN n => ldRegImm .e n
  | .rra => rra
  | .jrNZE e => jrCond .nz e
  | .ldHLNn nn => ldPairImm .hl nn
  | .ldAtHLIncA => ldAtHLIncA
  | .incHL => incPair .hl
  | .incH => incReg .h
  | .decH => decReg .h
  | .ldHN n => ldRegImm .h n
  | .daa => daa
  | .jrZE e => jrCond .z e
  | .addHLHL => addHLPair .hl
  | .ldAAtHLInc => ldAAtHLInc
  | .decHL => decPair .hl
  | .incL => incReg .l
  | .decL => decReg .l
  | .ldLN n => ldRegImm .l n
  | .cpl => cpl
  | .jrNCE e => jrCond .nc e
  | .ldSPNn nn => ldPairImm .sp nn
  | .ldAtHLDecA => ldAtHLDecA
  | .incSP => incPair .sp
  | .incAtHL => incAtHL
  | .decAtHL => decAtHL
  | .ldAtHLN n => ldAtHLN n
  | .scf => scf
  | .jrCE e => jrCond .c e
  | .addHLSP => addHLPair .sp
  | .ldAAtHLDec => ldAAtHLDec
  | .decSP => decPair .sp
  | .incA => incReg .a
  | .decA => decReg .a
  | .ldAN n => ldRegImm .a n
  | .ccf => ccf
  | .ldBB => ldRegReg .b .b
  | .ldBC => ldRegReg .b .c
  | .ldBD => ldRegReg .b .d
  | .ldBE => ldRegReg .b .e
  | .ldBH => ldRegReg .b .h
  | .ldBL => ldRegReg .b .l
  | .ldBAtHL => ldRegAtHL .b
  | .ldBA => ldRegReg .b .a
  | .ldCB => ldRegReg .c .b
  | .ldCC => ldRegReg .c .c
  | .ldCD => ldRegReg .c .d
  | .ldCE => ldRegReg .c .e
  | .ldCH => ldRegReg .c .h
  | .ldCL => ldRegReg .c .l
  | .ldCAtHL => ldRegAtHL .c
  | .ldCA => ldRegReg .c .a
  | .ldDB => ldRegReg .d .b
  | .ldDC => ldRegReg .d .c
  | .ldDD => ldRegReg .d .d
  | .ldDE => ldRegReg .d .e
  | .ldDH => ldRegReg .d .h
  | .ldDL => ldRegReg .d .l
  | .ldDAtHL => ldRegAtHL .d
  | .ldDA => ldRegReg .d .a
  | .ldEB => ldRegReg .e .b
  | .ldEC => ldRegReg .e .c
  | .ldED => ldRegReg .e .d
  | .ldEE => ldRegReg .e .e
  | .ldEH => ldRegReg .e .h
  | .ldEL => ldRegReg .e .l
  | .ldEAtHL => ldRegAtHL .e
  | .ldEA => ldRegReg .e .a
  | .ldHB => ldRegReg .h .b
  | .ldHC => ldRegReg .h .c
  | .ldHD => ldRegReg .h .d
  | .ldHE => ldRegReg .h .e
  | .ldHH => ldRegReg .h .h
  | .ldHL => ldRegReg .h .l
  | .ldHAtHL => ldRegAtHL .h
  | .ldHA => ldRegReg .h .a
  | .ldLB => ldRegReg .l .b
  | .ldLC => ldRegReg .l .c
  | .ldLD => ldRegReg .l .d
  | .ldLE => ldRegReg .l .e
  | .ldLH => ldRegReg .l .h
  | .ldLL => ldRegReg .l .l
  | .ldLAtHL => ldRegAtHL .l
  | .ldLA => ldRegReg .l .a
  | .ldAtHLB => ldAtHLReg .b
  | .ldAtHLC => ldAtHLReg .c
  | .ldAtHLD => ldAtHLReg .d
  | .ldAtHLE => ldAtHLReg .e
  | .ldAtHLH => ldAtHLReg .h
  | .ldAtHLL => ldAtHLReg .l
  | .halt => halt
  | .ldAtHLA => ldAtHLReg .a
  | .ldAB => ldRegReg .a .b
  | .ldAC => ldRegReg .a .c
  | .ldAD => ldRegReg .a .d
  | .ldAE => ldRegReg .a .e
  | .ldAH => ldRegReg .a .h
  | .ldAL => ldRegReg .a .l
  | .ldAAtHL => ldRegAtHL .a
  | .ldAA => ldRegReg .a .a
  | .addAB => aluReg .add (.reg .b)
  | .addAC => aluReg .add (.reg .c)
  | .addAD => aluReg .add (.reg .d)
  | .addAE => aluReg .add (.reg .e)
  | .addAH => aluReg .add (.reg .h)
  | .addAL => aluReg .add (.reg .l)
  | .addAAtHL => aluReg .add .atHL
  | .addAA => aluReg .add (.reg .a)
  | .adcAB => aluReg .adc (.reg .b)
  | .adcAC => aluReg .adc (.reg .c)
  | .adcAD => aluReg .adc (.reg .d)
  | .adcAE => aluReg .adc (.reg .e)
  | .adcAH => aluReg .adc (.reg .h)
  | .adcAL => aluReg .adc (.reg .l)
  | .adcAAtHL => aluReg .adc .atHL
  | .adcAA => aluReg .adc (.reg .a)
  | .subAB => aluReg .sub (.reg .b)
  | .subAC => aluReg .sub (.reg .c)
  | .subAD => aluReg .sub (.reg .d)
  | .subAE => aluReg .sub (.reg .e)
  | .subAH => aluReg .sub (.reg .h)
  | .subAL => aluReg .sub (.reg .l)
  | .subAAtHL => aluReg .sub .atHL
  | .subAA => aluReg .sub (.reg .a)
  | .sbcAB => aluReg .sbc (.reg .b)
  | .sbcAC => aluReg .sbc (.reg .c)
  | .sbcAD => aluReg .sbc (.reg .d)
  | .sbcAE => aluReg .sbc (.reg .e)
  | .sbcAH => aluReg .sbc (.reg .h)
  | .sbcAL => aluReg .sbc (.reg .l)
  | .sbcAAtHL => aluReg .sbc .atHL
  | .sbcAA => aluReg .sbc (.reg .a)
  | .andAB => aluReg .and (.reg .b)
  | .andAC => aluReg .and (.reg .c)
  | .andAD => aluReg .and (.reg .d)
  | .andAE => aluReg .and (.reg .e)
  | .andAH => aluReg .and (.reg .h)
  | .andAL => aluReg .and (.reg .l)
  | .andAAtHL => aluReg .and .atHL
  | .andAA => aluReg .and (.reg .a)
  | .xorAB => aluReg .xor (.reg .b)
  | .xorAC => aluReg .xor (.reg .c)
  | .xorAD => aluReg .xor (.reg .d)
  | .xorAE => aluReg .xor (.reg .e)
  | .xorAH => aluReg .xor (.reg .h)
  | .xorAL => aluReg .xor (.reg .l)
  | .xorAAtHL => aluReg .xor .atHL
  | .xorAA => aluReg .xor (.reg .a)
  | .orAB => aluReg .or (.reg .b)
  | .orAC => aluReg .or (.reg .c)
  | .orAD => aluReg .or (.reg .d)
  | .orAE => aluReg .or (.reg .e)
  | .orAH => aluReg .or (.reg .h)
  | .orAL => aluReg .or (.reg .l)
  | .orAAtHL => aluReg .or .atHL
  | .orAA => aluReg .or (.reg .a)
  | .cpAB => aluReg .cp (.reg .b)
  | .cpAC => aluReg .cp (.reg .c)
  | .cpAD => aluReg .cp (.reg .d)
  | .cpAE => aluReg .cp (.reg .e)
  | .cpAH => aluReg .cp (.reg .h)
  | .cpAL => aluReg .cp (.reg .l)
  | .cpAAtHL => aluReg .cp .atHL
  | .cpAA => aluReg .cp (.reg .a)
  | .retNZ => retCond .nz
  | .popBC => pop .bc
  | .jpNZNn nn => jpCond .nz nn
  | .jpNn nn => jpNn nn
  | .callNZNn nn => callCond .nz nn
  | .pushBC => push .bc
  | .addAN n => aluImm .add n
  | .rst00H => rst 0
  | .retZ => retCond .z
  | .ret => ret
  | .jpZNn nn => jpCond .z nn
  | .prefixCB cb => prefixCB cb
  | .callZNn nn => callCond .z nn
  | .callNn nn => callNn nn
  | .adcAN n => aluImm .adc n
  | .rst08H => rst 1
  | .retNC => retCond .nc
  | .popDE => pop .de
  | .jpNCNn nn => jpCond .nc nn
  | .invalidD3 => invalidD3
  | .callNCNn nn => callCond .nc nn
  | .pushDE => push .de
  | .subAN n => aluImm .sub n
  | .rst10H => rst 2
  | .retC => retCond .c
  | .reti => reti
  | .jpCNn nn => jpCond .c nn
  | .invalidDB => invalidDB
  | .callCNn nn => callCond .c nn
  | .invalidDD => invalidDD
  | .sbcAN n => aluImm .sbc n
  | .rst18H => rst 3
  | .ldhAtNA n => ldhAtNA n
  | .popHL => pop .hl
  | .ldAtCA => ldAtCA
  | .invalidE3 => invalidE3
  | .invalidE4 => invalidE4
  | .pushHL => push .hl
  | .andAN n => aluImm .and n
  | .rst20H => rst 4
  | .addSPE e => addSPE e
  | .jpHL => jpHL
  | .ldAtNnA nn => ldAtNnA nn
  | .invalidEB => invalidEB
  | .invalidEC => invalidEC
  | .invalidED => invalidED
  | .xorAN n => aluImm .xor n
  | .rst28H => rst 5
  | .ldhAAtN n => ldhAAtN n
  | .popAF => pop .af
  | .ldAAtC => ldAAtC
  | .di => di
  | .invalidF4 => invalidF4
  | .pushAF => push .af
  | .orAN n => aluImm .or n
  | .rst30H => rst 6
  | .ldHLSPE e => ldHLSPE e
  | .ldSPHL => ldSPHL
  | .ldAAtNn nn => ldAAtNn nn
  | .ei => ei
  | .invalidFC => invalidFC
  | .invalidFD => invalidFD
  | .cpAN n => aluImm .cp n
  | .rst38H => rst 7
  | .rlcB => rotate .rlc (.reg .b)
  | .rlcC => rotate .rlc (.reg .c)
  | .rlcD => rotate .rlc (.reg .d)
  | .rlcE => rotate .rlc (.reg .e)
  | .rlcH => rotate .rlc (.reg .h)
  | .rlcL => rotate .rlc (.reg .l)
  | .rlcAtHL => rotate .rlc .atHL
  | .rlcA => rotate .rlc (.reg .a)
  | .rrcB => rotate .rrc (.reg .b)
  | .rrcC => rotate .rrc (.reg .c)
  | .rrcD => rotate .rrc (.reg .d)
  | .rrcE => rotate .rrc (.reg .e)
  | .rrcH => rotate .rrc (.reg .h)
  | .rrcL => rotate .rrc (.reg .l)
  | .rrcAtHL => rotate .rrc .atHL
  | .rrcA => rotate .rrc (.reg .a)
  | .rlB => rotate .rl (.reg .b)
  | .rlC => rotate .rl (.reg .c)
  | .rlD => rotate .rl (.reg .d)
  | .rlE => rotate .rl (.reg .e)
  | .rlH => rotate .rl (.reg .h)
  | .rlL => rotate .rl (.reg .l)
  | .rlAtHL => rotate .rl .atHL
  | .rlA => rotate .rl (.reg .a)
  | .rrB => rotate .rr (.reg .b)
  | .rrC => rotate .rr (.reg .c)
  | .rrD => rotate .rr (.reg .d)
  | .rrE => rotate .rr (.reg .e)
  | .rrH => rotate .rr (.reg .h)
  | .rrL => rotate .rr (.reg .l)
  | .rrAtHL => rotate .rr .atHL
  | .rrA => rotate .rr (.reg .a)
  | .slaB => rotate .sla (.reg .b)
  | .slaC => rotate .sla (.reg .c)
  | .slaD => rotate .sla (.reg .d)
  | .slaE => rotate .sla (.reg .e)
  | .slaH => rotate .sla (.reg .h)
  | .slaL => rotate .sla (.reg .l)
  | .slaAtHL => rotate .sla .atHL
  | .slaA => rotate .sla (.reg .a)
  | .sraB => rotate .sra (.reg .b)
  | .sraC => rotate .sra (.reg .c)
  | .sraD => rotate .sra (.reg .d)
  | .sraE => rotate .sra (.reg .e)
  | .sraH => rotate .sra (.reg .h)
  | .sraL => rotate .sra (.reg .l)
  | .sraAtHL => rotate .sra .atHL
  | .sraA => rotate .sra (.reg .a)
  | .swapB => rotate .swap (.reg .b)
  | .swapC => rotate .swap (.reg .c)
  | .swapD => rotate .swap (.reg .d)
  | .swapE => rotate .swap (.reg .e)
  | .swapH => rotate .swap (.reg .h)
  | .swapL => rotate .swap (.reg .l)
  | .swapAtHL => rotate .swap .atHL
  | .swapA => rotate .swap (.reg .a)
  | .srlB => rotate .srl (.reg .b)
  | .srlC => rotate .srl (.reg .c)
  | .srlD => rotate .srl (.reg .d)
  | .srlE => rotate .srl (.reg .e)
  | .srlH => rotate .srl (.reg .h)
  | .srlL => rotate .srl (.reg .l)
  | .srlAtHL => rotate .srl .atHL
  | .srlA => rotate .srl (.reg .a)
  | .bit0B => bit 0 (.reg .b)
  | .bit0C => bit 0 (.reg .c)
  | .bit0D => bit 0 (.reg .d)
  | .bit0E => bit 0 (.reg .e)
  | .bit0H => bit 0 (.reg .h)
  | .bit0L => bit 0 (.reg .l)
  | .bit0AtHL => bit 0 .atHL
  | .bit0A => bit 0 (.reg .a)
  | .bit1B => bit 1 (.reg .b)
  | .bit1C => bit 1 (.reg .c)
  | .bit1D => bit 1 (.reg .d)
  | .bit1E => bit 1 (.reg .e)
  | .bit1H => bit 1 (.reg .h)
  | .bit1L => bit 1 (.reg .l)
  | .bit1AtHL => bit 1 .atHL
  | .bit1A => bit 1 (.reg .a)
  | .bit2B => bit 2 (.reg .b)
  | .bit2C => bit 2 (.reg .c)
  | .bit2D => bit 2 (.reg .d)
  | .bit2E => bit 2 (.reg .e)
  | .bit2H => bit 2 (.reg .h)
  | .bit2L => bit 2 (.reg .l)
  | .bit2AtHL => bit 2 .atHL
  | .bit2A => bit 2 (.reg .a)
  | .bit3B => bit 3 (.reg .b)
  | .bit3C => bit 3 (.reg .c)
  | .bit3D => bit 3 (.reg .d)
  | .bit3E => bit 3 (.reg .e)
  | .bit3H => bit 3 (.reg .h)
  | .bit3L => bit 3 (.reg .l)
  | .bit3AtHL => bit 3 .atHL
  | .bit3A => bit 3 (.reg .a)
  | .bit4B => bit 4 (.reg .b)
  | .bit4C => bit 4 (.reg .c)
  | .bit4D => bit 4 (.reg .d)
  | .bit4E => bit 4 (.reg .e)
  | .bit4H => bit 4 (.reg .h)
  | .bit4L => bit 4 (.reg .l)
  | .bit4AtHL => bit 4 .atHL
  | .bit4A => bit 4 (.reg .a)
  | .bit5B => bit 5 (.reg .b)
  | .bit5C => bit 5 (.reg .c)
  | .bit5D => bit 5 (.reg .d)
  | .bit5E => bit 5 (.reg .e)
  | .bit5H => bit 5 (.reg .h)
  | .bit5L => bit 5 (.reg .l)
  | .bit5AtHL => bit 5 .atHL
  | .bit5A => bit 5 (.reg .a)
  | .bit6B => bit 6 (.reg .b)
  | .bit6C => bit 6 (.reg .c)
  | .bit6D => bit 6 (.reg .d)
  | .bit6E => bit 6 (.reg .e)
  | .bit6H => bit 6 (.reg .h)
  | .bit6L => bit 6 (.reg .l)
  | .bit6AtHL => bit 6 .atHL
  | .bit6A => bit 6 (.reg .a)
  | .bit7B => bit 7 (.reg .b)
  | .bit7C => bit 7 (.reg .c)
  | .bit7D => bit 7 (.reg .d)
  | .bit7E => bit 7 (.reg .e)
  | .bit7H => bit 7 (.reg .h)
  | .bit7L => bit 7 (.reg .l)
  | .bit7AtHL => bit 7 .atHL
  | .bit7A => bit 7 (.reg .a)
  | .res0B => res 0 (.reg .b)
  | .res0C => res 0 (.reg .c)
  | .res0D => res 0 (.reg .d)
  | .res0E => res 0 (.reg .e)
  | .res0H => res 0 (.reg .h)
  | .res0L => res 0 (.reg .l)
  | .res0AtHL => res 0 .atHL
  | .res0A => res 0 (.reg .a)
  | .res1B => res 1 (.reg .b)
  | .res1C => res 1 (.reg .c)
  | .res1D => res 1 (.reg .d)
  | .res1E => res 1 (.reg .e)
  | .res1H => res 1 (.reg .h)
  | .res1L => res 1 (.reg .l)
  | .res1AtHL => res 1 .atHL
  | .res1A => res 1 (.reg .a)
  | .res2B => res 2 (.reg .b)
  | .res2C => res 2 (.reg .c)
  | .res2D => res 2 (.reg .d)
  | .res2E => res 2 (.reg .e)
  | .res2H => res 2 (.reg .h)
  | .res2L => res 2 (.reg .l)
  | .res2AtHL => res 2 .atHL
  | .res2A => res 2 (.reg .a)
  | .res3B => res 3 (.reg .b)
  | .res3C => res 3 (.reg .c)
  | .res3D => res 3 (.reg .d)
  | .res3E => res 3 (.reg .e)
  | .res3H => res 3 (.reg .h)
  | .res3L => res 3 (.reg .l)
  | .res3AtHL => res 3 .atHL
  | .res3A => res 3 (.reg .a)
  | .res4B => res 4 (.reg .b)
  | .res4C => res 4 (.reg .c)
  | .res4D => res 4 (.reg .d)
  | .res4E => res 4 (.reg .e)
  | .res4H => res 4 (.reg .h)
  | .res4L => res 4 (.reg .l)
  | .res4AtHL => res 4 .atHL
  | .res4A => res 4 (.reg .a)
  | .res5B => res 5 (.reg .b)
  | .res5C => res 5 (.reg .c)
  | .res5D => res 5 (.reg .d)
  | .res5E => res 5 (.reg .e)
  | .res5H => res 5 (.reg .h)
  | .res5L => res 5 (.reg .l)
  | .res5AtHL => res 5 .atHL
  | .res5A => res 5 (.reg .a)
  | .res6B => res 6 (.reg .b)
  | .res6C => res 6 (.reg .c)
  | .res6D => res 6 (.reg .d)
  | .res6E => res 6 (.reg .e)
  | .res6H => res 6 (.reg .h)
  | .res6L => res 6 (.reg .l)
  | .res6AtHL => res 6 .atHL
  | .res6A => res 6 (.reg .a)
  | .res7B => res 7 (.reg .b)
  | .res7C => res 7 (.reg .c)
  | .res7D => res 7 (.reg .d)
  | .res7E => res 7 (.reg .e)
  | .res7H => res 7 (.reg .h)
  | .res7L => res 7 (.reg .l)
  | .res7AtHL => res 7 .atHL
  | .res7A => res 7 (.reg .a)
  | .set0B => set 0 (.reg .b)
  | .set0C => set 0 (.reg .c)
  | .set0D => set 0 (.reg .d)
  | .set0E => set 0 (.reg .e)
  | .set0H => set 0 (.reg .h)
  | .set0L => set 0 (.reg .l)
  | .set0AtHL => set 0 .atHL
  | .set0A => set 0 (.reg .a)
  | .set1B => set 1 (.reg .b)
  | .set1C => set 1 (.reg .c)
  | .set1D => set 1 (.reg .d)
  | .set1E => set 1 (.reg .e)
  | .set1H => set 1 (.reg .h)
  | .set1L => set 1 (.reg .l)
  | .set1AtHL => set 1 .atHL
  | .set1A => set 1 (.reg .a)
  | .set2B => set 2 (.reg .b)
  | .set2C => set 2 (.reg .c)
  | .set2D => set 2 (.reg .d)
  | .set2E => set 2 (.reg .e)
  | .set2H => set 2 (.reg .h)
  | .set2L => set 2 (.reg .l)
  | .set2AtHL => set 2 .atHL
  | .set2A => set 2 (.reg .a)
  | .set3B => set 3 (.reg .b)
  | .set3C => set 3 (.reg .c)
  | .set3D => set 3 (.reg .d)
  | .set3E => set 3 (.reg .e)
  | .set3H => set 3 (.reg .h)
  | .set3L => set 3 (.reg .l)
  | .set3AtHL => set 3 .atHL
  | .set3A => set 3 (.reg .a)
  | .set4B => set 4 (.reg .b)
  | .set4C => set 4 (.reg .c)
  | .set4D => set 4 (.reg .d)
  | .set4E => set 4 (.reg .e)
  | .set4H => set 4 (.reg .h)
  | .set4L => set 4 (.reg .l)
  | .set4AtHL => set 4 .atHL
  | .set4A => set 4 (.reg .a)
  | .set5B => set 5 (.reg .b)
  | .set5C => set 5 (.reg .c)
  | .set5D => set 5 (.reg .d)
  | .set5E => set 5 (.reg .e)
  | .set5H => set 5 (.reg .h)
  | .set5L => set 5 (.reg .l)
  | .set5AtHL => set 5 .atHL
  | .set5A => set 5 (.reg .a)
  | .set6B => set 6 (.reg .b)
  | .set6C => set 6 (.reg .c)
  | .set6D => set 6 (.reg .d)
  | .set6E => set 6 (.reg .e)
  | .set6H => set 6 (.reg .h)
  | .set6L => set 6 (.reg .l)
  | .set6AtHL => set 6 .atHL
  | .set6A => set 6 (.reg .a)
  | .set7B => set 7 (.reg .b)
  | .set7C => set 7 (.reg .c)
  | .set7D => set 7 (.reg .d)
  | .set7E => set 7 (.reg .e)
  | .set7H => set 7 (.reg .h)
  | .set7L => set 7 (.reg .l)
  | .set7AtHL => set 7 .atHL
  | .set7A => set 7 (.reg .a)

end Sys2Proof
end

