-- ==== Sys2Proof/Laws/Exec.lean ====
section
/-! SUPPORT. What `exec` does with a view: the shared form, at the view's operands. -/

namespace Sys2Proof.Machine

theorem exec_ldRegReg (r src : Reg8) (s : State) : exec (.ldRegReg r src) s = loadRegReg r src s := by
  cases r <;> cases src <;> rfl

theorem exec_ldRegImm (r : Reg8) (n : Byte) (s : State) : exec (.ldRegImm r n) s = loadRegImm r n s := by
  cases r <;> rfl

theorem exec_ldRegAtHL (r : Reg8) (s : State) : exec (.ldRegAtHL r) s = loadRegAt r s.hl s := by
  cases r <;> rfl

theorem exec_ldAtHLReg (r : Reg8) (s : State) : exec (.ldAtHLReg r) s = storeAt s.hl (s.reg r) s := by
  cases r <;> rfl

theorem exec_ldPairImm (p : Pair) (nn : Word) (s : State) : exec (.ldPairImm p nn) s = loadPairImm p nn s := by
  cases p <;> rfl

theorem exec_push (p : StackPair) (s : State) : exec (.push p) s = pushPair p s := by
  cases p <;> rfl

theorem exec_pop (p : StackPair) (s : State) : exec (.pop p) s = popPair p s := by
  cases p <;> rfl

/-- The ALU operand of a register or (HL) target. -/
def targetOperand : Target → Operand8
  | .reg r => .reg r
  | .atHL => .atHL

theorem exec_aluReg (op : AluOp) (t : Target) (s : State) : exec (.aluReg op t) s = aluOnA op (targetOperand t) s := by
  cases t with
  | atHL => cases op <;> rfl
  | reg r => cases op <;> cases r <;> rfl

theorem exec_aluImm (op : AluOp) (n : Byte) (s : State) : exec (.aluImm op n) s = aluOnA op (.imm n) s := by
  cases op <;> rfl

theorem exec_incReg (r : Reg8) (s : State) : exec (.incReg r) s = incTarget (.reg r) s := by
  cases r <;> rfl

theorem exec_decReg (r : Reg8) (s : State) : exec (.decReg r) s = decTarget (.reg r) s := by
  cases r <;> rfl

theorem exec_addHLPair (p : Pair) (s : State) : exec (.addHLPair p) s = addHL p s := by
  cases p <;> rfl

theorem exec_incPair (p : Pair) (s : State) : exec (.incPair p) s = stepPair 1#16 p s := by
  cases p <;> rfl

theorem exec_decPair (p : Pair) (s : State) : exec (.decPair p) s = stepPair (-1#16) p s := by
  cases p <;> rfl

theorem exec_jpCond (cc : Cond) (nn : Word) (s : State) : exec (.jpCond cc nn) s = jumpCond cc nn s := by
  cases cc <;> rfl

theorem exec_jrCond (cc : Cond) (e : Byte) (s : State) : exec (.jrCond cc e) s = jumpRelCond cc e s := by
  cases cc <;> rfl

theorem exec_callCond (cc : Cond) (nn : Word) (s : State) : exec (.callCond cc nn) s = callCond cc nn s := by
  cases cc <;> rfl

theorem exec_retCond (cc : Cond) (s : State) : exec (.retCond cc) s = returnCond cc s := by
  cases cc <;> rfl

theorem exec_rst (k : Fin 8) (s : State) : exec (.rst k) s = restart k s := by
  fin_cases k <;> rfl

theorem exec_rotate (op : RotOp) (t : Target) (s : State) : exec (.rotate op t) s = rotateTarget op t s := by
  cases t with
  | atHL => cases op <;> rfl
  | reg r => cases op <;> cases r <;> rfl

theorem exec_bit (b : Fin 8) (t : Target) (s : State) : exec (.bit b t) s = bitTarget b t s := by
  cases t with
  | atHL => fin_cases b <;> rfl
  | reg r => fin_cases b <;> cases r <;> rfl

theorem exec_res (b : Fin 8) (t : Target) (s : State) : exec (.res b t) s = resTarget b t s := by
  cases t with
  | atHL => fin_cases b <;> rfl
  | reg r => fin_cases b <;> cases r <;> rfl

theorem exec_set (b : Fin 8) (t : Target) (s : State) : exec (.set b t) s = setTarget b t s := by
  cases t with
  | atHL => fin_cases b <;> rfl
  | reg r => fin_cases b <;> cases r <;> rfl

end Sys2Proof.Machine
end

