-- ==== Sys2Proof/Laws/Stack.lean ====
section
/-! SUPPORT. The stack operations, a dispatch and the two ways an instruction ends, each as one equation on the state. -/

namespace Sys2Proof.Machine

theorem sub_one_sub_one (x : Word) : x - 1#16 - 1#16 = x - 2#16 := by bv_omega

theorem add_one_add_one (x : Word) : x + 1#16 + 1#16 = x + 2#16 := by bv_omega

theorem joinBytes_eq_append (hi lo : Byte) : joinBytes hi lo = hi ++ lo := rfl

/-- R80: two bytes stored below SP, the high one first. -/
theorem push16_eq (v : Word) (s : State) :
    push16 v s =
      { memWrite (s.sp - 2#16) (loByte v) (memWrite (s.sp - 1#16) (hiByte v) s) with sp := s.sp - 2#16 } := by
  have h (w : Byte) (u : State) : pushByte w u = { memWrite (u.sp - 1#16) w u with sp := u.sp - 1#16 } :=
    memWrite_with_sp _ _ _ _
  have h2 (x : Word) (w : Byte) (u : State) :
      pushByte w { u with sp := x } = { memWrite (x - 1#16) w u with sp := x - 1#16 } :=
    memWrite_with_sp _ _ u _
  rw [push16, h]
  dsimp only
  rw [h2, sub_one_sub_one]
  dsimp only
  rw [memWrite_with_sp]

/-- R81: two bytes read from SP up, the low one first. -/
theorem pop16_eq (s : State) :
    pop16 s =
      (joinBytes (memRead (s.sp + 1#16) (memRead s.sp s).2).1 (memRead s.sp s).1,
        { (memRead (s.sp + 1#16) (memRead s.sp s).2).2 with sp := s.sp + 2#16 }) := by
  have h (x : Word) (u : State) :
      popByte { u with sp := x } = ((memRead x u).1, { (memRead x u).2 with sp := x + 1#16 }) := by
    unfold popByte
    rw [memRead_with_sp]
  have h0 : popByte s = ((memRead s.sp s).1, { (memRead s.sp s).2 with sp := s.sp + 1#16 }) := h s.sp s
  unfold pop16
  rw [h0]
  dsimp only
  rw [h, add_one_add_one]

@[simp] theorem push16_a (v : Word) (s : State) : (push16 v s).a = s.a := by
  rw [push16_eq]; simp

@[simp] theorem push16_f (v : Word) (s : State) : (push16 v s).f = s.f := by
  rw [push16_eq]; simp

@[simp] theorem push16_b (v : Word) (s : State) : (push16 v s).b = s.b := by
  rw [push16_eq]; simp

@[simp] theorem push16_c (v : Word) (s : State) : (push16 v s).c = s.c := by
  rw [push16_eq]; simp

@[simp] theorem push16_d (v : Word) (s : State) : (push16 v s).d = s.d := by
  rw [push16_eq]; simp

@[simp] theorem push16_e (v : Word) (s : State) : (push16 v s).e = s.e := by
  rw [push16_eq]; simp

@[simp] theorem push16_h (v : Word) (s : State) : (push16 v s).h = s.h := by
  rw [push16_eq]; simp

@[simp] theorem push16_l (v : Word) (s : State) : (push16 v s).l = s.l := by
  rw [push16_eq]; simp

@[simp] theorem push16_pc (v : Word) (s : State) : (push16 v s).pc = s.pc := by
  rw [push16_eq]; simp

@[simp] theorem push16_instClocks (v : Word) (s : State) : (push16 v s).instClocks = s.instClocks := by
  rw [push16_eq]; simp

@[simp] theorem push16_ime (v : Word) (s : State) : (push16 v s).ime = s.ime := by
  rw [push16_eq]; simp

@[simp] theorem push16_isHalted (v : Word) (s : State) : (push16 v s).isHalted = s.isHalted := by
  rw [push16_eq]; simp

@[simp] theorem push16_haltBug (v : Word) (s : State) : (push16 v s).haltBug = s.haltBug := by
  rw [push16_eq]; simp

@[simp] theorem push16_eiImeEnable (v : Word) (s : State) : (push16 v s).eiImeEnable = s.eiImeEnable := by
  rw [push16_eq]; simp

@[simp] theorem push16_fault (v : Word) (s : State) : (push16 v s).fault = s.fault := by
  rw [push16_eq]; simp

@[simp] theorem push16_opAddr (v : Word) (s : State) : (push16 v s).opAddr = s.opAddr := by
  rw [push16_eq]; simp

@[simp] theorem push16_busAnswers (v : Word) (s : State) : (push16 v s).busAnswers = s.busAnswers := by
  rw [push16_eq]; simp

@[simp] theorem push16_requests (v : Word) (s : State) : (push16 v s).requests = s.requests := by
  rw [push16_eq]; simp

@[simp] theorem push16_bpAddr (v : Word) (s : State) : (push16 v s).bpAddr = s.bpAddr := by
  rw [push16_eq]; simp

@[simp] theorem push16_bpEnabled (v : Word) (s : State) : (push16 v s).bpEnabled = s.bpEnabled := by
  rw [push16_eq]; simp

@[simp] theorem push16_cfg (v : Word) (s : State) : (push16 v s).cfg = s.cfg := by
  rw [push16_eq]; simp

@[simp] theorem push16_sp (v : Word) (s : State) : (push16 v s).sp = s.sp - 2#16 := by
  rw [push16_eq]

theorem push16_wf (v : Word) {s : State} (h : s.mem.wf = true) : (push16 v s).mem.wf = true := by
  rw [push16_eq]
  exact memWrite_wf _ _ (memWrite_wf _ _ h)

theorem peek_push16 {v : Word} {s : State} {x : Word} (h1 : x ≠ s.sp - 1#16) (h2 : x ≠ s.sp - 2#16) :
    (push16 v s).peek x = s.peek x := by
  rw [push16_eq]
  exact (peek_memWrite_other _ _ h2).trans (peek_memWrite_other _ _ h1)

@[simp] theorem pop16_a (s : State) : (pop16 s).2.a = s.a := by
  rw [pop16_eq]; simp

@[simp] theorem pop16_f (s : State) : (pop16 s).2.f = s.f := by
  rw [pop16_eq]; simp

@[simp] theorem pop16_b (s : State) : (pop16 s).2.b = s.b := by
  rw [pop16_eq]; simp

@[simp] theorem pop16_c (s : State) : (pop16 s).2.c = s.c := by
  rw [pop16_eq]; simp

@[simp] theorem pop16_d (s : State) : (pop16 s).2.d = s.d := by
  rw [pop16_eq]; simp

@[simp] theorem pop16_e (s : State) : (pop16 s).2.e = s.e := by
  rw [pop16_eq]; simp

@[simp] theorem pop16_h (s : State) : (pop16 s).2.h = s.h := by
  rw [pop16_eq]; simp

@[simp] theorem pop16_l (s : State) : (pop16 s).2.l = s.l := by
  rw [pop16_eq]; simp

@[simp] theorem pop16_pc (s : State) : (pop16 s).2.pc = s.pc := by
  rw [pop16_eq]; simp

@[simp] theorem pop16_instClocks (s : State) : (pop16 s).2.instClocks = s.instClocks := by
  rw [pop16_eq]; simp

@[simp] theorem pop16_ime (s : State) : (pop16 s).2.ime = s.ime := by
  rw [pop16_eq]; simp

@[simp] theorem pop16_isHalted (s : State) : (pop16 s).2.isHalted = s.isHalted := by
  rw [pop16_eq]; simp

@[simp] theorem pop16_haltBug (s : State) : (pop16 s).2.haltBug = s.haltBug := by
  rw [pop16_eq]; simp

@[simp] theorem pop16_eiImeEnable (s : State) : (pop16 s).2.eiImeEnable = s.eiImeEnable := by
  rw [pop16_eq]; simp

@[simp] theorem pop16_fault (s : State) : (pop16 s).2.fault = s.fault := by
  rw [pop16_eq]; simp

@[simp] theorem pop16_opAddr (s : State) : (pop16 s).2.opAddr = s.opAddr := by
  rw [pop16_eq]; simp

@[simp] theorem pop16_divcnt (s : State) : (pop16 s).2.divcnt = s.divcnt := by
  rw [pop16_eq]; simp

@[simp] theorem pop16_tima (s : State) : (pop16 s).2.tima = s.tima := by
  rw [pop16_eq]; simp

@[simp] theorem pop16_tma (s : State) : (pop16 s).2.tma = s.tma := by
  rw [pop16_eq]; simp

@[simp] theorem pop16_tac (s : State) : (pop16 s).2.tac = s.tac := by
  rw [pop16_eq]; simp

@[simp] theorem pop16_ifr (s : State) : (pop16 s).2.ifr = s.ifr := by
  rw [pop16_eq]; simp

@[simp] theorem pop16_ie (s : State) : (pop16 s).2.ie = s.ie := by
  rw [pop16_eq]; simp

@[simp] theorem pop16_mem (s : State) : (pop16 s).2.mem = s.mem := by
  rw [pop16_eq]; simp

@[simp] theorem pop16_requests (s : State) : (pop16 s).2.requests = s.requests := by
  rw [pop16_eq]; simp

@[simp] theorem pop16_bpAddr (s : State) : (pop16 s).2.bpAddr = s.bpAddr := by
  rw [pop16_eq]; simp

@[simp] theorem pop16_bpEnabled (s : State) : (pop16 s).2.bpEnabled = s.bpEnabled := by
  rw [pop16_eq]; simp

@[simp] theorem pop16_cfg (s : State) : (pop16 s).2.cfg = s.cfg := by
  rw [pop16_eq]; simp

@[simp] theorem pop16_sp (s : State) : (pop16 s).2.sp = s.sp + 2#16 := by
  rw [pop16_eq]

@[simp] theorem peek_pop16 (s : State) (x : Word) : (pop16 s).2.peek x = s.peek x :=
  peek_congr x (by simp)

/-- A push and a pop of the same two external bytes, where no answer is scripted. -/
theorem pop16_push16 (v : Word) {s : State} (hm : s.mem.wf = true)
    (h1 : ioRegAt (s.sp - 1#16) = none) (h2 : ioRegAt (s.sp - 2#16) = none) (t : State)
    (hmem : t.mem = (push16 v s).mem) (hsp : t.sp = s.sp - 2#16) (hbus : t.busAnswers = []) :
    (pop16 t).1 = v ∧ (pop16 t).2.sp = s.sp := by
  have hne : s.sp - 1#16 ≠ s.sp - 2#16 := by bv_omega
  have hnn : (s.sp - 1#16).toNat ≠ (s.sp - 2#16).toNat := fun he => hne (BitVec.eq_of_toNat_eq he)
  have e1 : s.sp - 2#16 + 1#16 = s.sp - 1#16 := by bv_omega
  have e2 : s.sp - 2#16 + 2#16 = s.sp := by bv_omega
  have hw := memWrite_wf (s.sp - 1#16) (hiByte v) hm
  have hread (x : Word) (hx : ioRegAt x = none) (u : State) (hu : u.busAnswers = []) :
      (memRead x u).1 = u.mem.read x.toNat := by simp [memRead, hx, extRead, hu]
  rw [push16_eq] at hmem
  simp only [memWrite_mem, h1, h2, if_true] at hmem hw
  have hlo : (memRead t.sp t).1 = loByte v := by
    rw [hsp, hread _ h2 t hbus, hmem, Memory.read_write hw, if_pos rfl]
  have hhi : (memRead (t.sp + 1#16) (memRead t.sp t).2).1 = hiByte v := by
    rw [hsp, e1, hread _ h1 _ (memRead_busAnswers_nil _ hbus), memRead_mem, hmem, Memory.read_write hw, if_neg hnn,
      Memory.read_write hm, if_pos rfl]
  rw [pop16_eq, hlo, hhi, joinBytes_hi_lo, hsp, e2]
  exact ⟨rfl, rfl⟩

theorem complete_eq (cost : Nat) (s : State) : complete cost s = .next { s with instClocks := cost } := rfl

theorem raiseFault_eq (record : FaultRecord) (s : State) :
    raiseFault record s = .next { s with fault := some record } := rfl

theorem complete_next_iff {cost : Nat} {s t : State} :
    complete cost s = .next t ↔ t = { s with instClocks := cost } := by
  rw [complete_eq]
  exact ⟨fun h => (Host.Outcome.next.inj h).symm, fun h => h ▸ rfl⟩

theorem raiseFault_next_iff {record : FaultRecord} {s t : State} :
    raiseFault record s = .next t ↔ t = { s with fault := some record } := by
  rw [raiseFault_eq]
  exact ⟨fun h => (Host.Outcome.next.inj h).symm, fun h => h ▸ rfl⟩

/-- R287: everything a dispatch does. -/
theorem dispatch_eq (p : BitVec 5) (s : State) :
    dispatch p s =
      let i := highestPriority p
      let w := memWrite (s.sp - 2#16) (loByte (dispatchReturn s)) (memWrite (s.sp - 1#16) (hiByte (dispatchReturn s)) s)
      { w with
        ime := false, eiImeEnable := false, haltBug := false
        ifr := w.ifr &&& ~~~i.mask, sp := s.sp - 2#16, pc := vector s.cfg i, instClocks := 20 } := by
  have h (x : Word) (w : Byte) (u : State) :
      memWrite x w { u with ime := false, eiImeEnable := false, haltBug := false } =
        { memWrite x w u with ime := false, eiImeEnable := false, haltBug := false } := by
    unfold memWrite; split <;> [(rename_i r _; cases r <;> rfl); rfl]
  simp only [dispatch, unsetInterrupt, push16_eq, h]

@[simp] theorem dispatch_a (p : BitVec 5) (s : State) : (dispatch p s).a = s.a := by
  rw [dispatch_eq]; simp

@[simp] theorem dispatch_f (p : BitVec 5) (s : State) : (dispatch p s).f = s.f := by
  rw [dispatch_eq]; simp

@[simp] theorem dispatch_b (p : BitVec 5) (s : State) : (dispatch p s).b = s.b := by
  rw [dispatch_eq]; simp

@[simp] theorem dispatch_c (p : BitVec 5) (s : State) : (dispatch p s).c = s.c := by
  rw [dispatch_eq]; simp

@[simp] theorem dispatch_d (p : BitVec 5) (s : State) : (dispatch p s).d = s.d := by
  rw [dispatch_eq]; simp

@[simp] theorem dispatch_e (p : BitVec 5) (s : State) : (dispatch p s).e = s.e := by
  rw [dispatch_eq]; simp

@[simp] theorem dispatch_h (p : BitVec 5) (s : State) : (dispatch p s).h = s.h := by
  rw [dispatch_eq]; simp

@[simp] theorem dispatch_l (p : BitVec 5) (s : State) : (dispatch p s).l = s.l := by
  rw [dispatch_eq]; simp

@[simp] theorem dispatch_sp (p : BitVec 5) (s : State) : (dispatch p s).sp = s.sp - 2#16 := by
  rw [dispatch_eq]

@[simp] theorem dispatch_pc (p : BitVec 5) (s : State) : (dispatch p s).pc = vector s.cfg (highestPriority p) := by
  rw [dispatch_eq]

@[simp] theorem dispatch_instClocks (p : BitVec 5) (s : State) : (dispatch p s).instClocks = 20 := by
  rw [dispatch_eq]

@[simp] theorem dispatch_ime (p : BitVec 5) (s : State) : (dispatch p s).ime = false := by
  rw [dispatch_eq]

@[simp] theorem dispatch_isHalted (p : BitVec 5) (s : State) : (dispatch p s).isHalted = s.isHalted := by
  rw [dispatch_eq]; simp

@[simp] theorem dispatch_haltBug (p : BitVec 5) (s : State) : (dispatch p s).haltBug = false := by
  rw [dispatch_eq]

@[simp] theorem dispatch_eiImeEnable (p : BitVec 5) (s : State) : (dispatch p s).eiImeEnable = false := by
  rw [dispatch_eq]

@[simp] theorem dispatch_fault (p : BitVec 5) (s : State) : (dispatch p s).fault = s.fault := by
  rw [dispatch_eq]; simp

@[simp] theorem dispatch_opAddr (p : BitVec 5) (s : State) : (dispatch p s).opAddr = s.opAddr := by
  rw [dispatch_eq]; simp

@[simp] theorem dispatch_busAnswers (p : BitVec 5) (s : State) : (dispatch p s).busAnswers = s.busAnswers := by
  rw [dispatch_eq]; simp

@[simp] theorem dispatch_requests (p : BitVec 5) (s : State) : (dispatch p s).requests = s.requests := by
  rw [dispatch_eq]; simp

@[simp] theorem dispatch_bpAddr (p : BitVec 5) (s : State) : (dispatch p s).bpAddr = s.bpAddr := by
  rw [dispatch_eq]; simp

@[simp] theorem dispatch_bpEnabled (p : BitVec 5) (s : State) : (dispatch p s).bpEnabled = s.bpEnabled := by
  rw [dispatch_eq]; simp

@[simp] theorem dispatch_cfg (p : BitVec 5) (s : State) : (dispatch p s).cfg = s.cfg := by
  rw [dispatch_eq]; simp

theorem dispatch_wf (p : BitVec 5) {s : State} (h : s.mem.wf = true) : (dispatch p s).mem.wf = true := by
  rw [dispatch_eq]
  exact memWrite_wf _ _ (memWrite_wf _ _ h)

/-- The source serviced is a pending one, and no lower source is pending (R286). -/
theorem highestPriority_spec (p : BitVec 5) (h : p ≠ 0#5) :
    p.getLsbD (highestPriority p).bit = true ∧ ∀ k < (highestPriority p).bit, p.getLsbD k = false := by
  revert h
  revert p
  decide

/-- The source serviced is the lowest pending one (R286). -/
theorem highestPriority_eq (p : BitVec 5) (i : Source) (h : p.getLsbD i.bit = true)
    (hl : ∀ k < i.bit, p.getLsbD k = false) : highestPriority p = i := by
  revert h hl
  revert p i
  have hs (q : BitVec 5 → Source → Prop) (h0 : ∀ p, q p .vblank) (h1 : ∀ p, q p .lcdStat) (h2 : ∀ p, q p .timer)
      (h3 : ∀ p, q p .serial) (h4 : ∀ p, q p .joypad) : ∀ p i, q p i := fun p i => by
    cases i
    exacts [h0 p, h1 p, h2 p, h3 p, h4 p]
  apply hs <;> decide

end Sys2Proof.Machine
end

