-- ==== Sys2Proof/Laws/Step.lean ====
section
/-! SUPPORT. What a step can do, said once: it counts, dispatches, fetches, or charges a halted CPU; and what the requester's
move, step 1 of the tick and the fetch leave alone. -/

namespace Sys2Proof.Machine

@[simp] theorem requesterMove_a (s : State) : (requesterMove s).a = s.a := by
  unfold requesterMove; split <;> rfl

@[simp] theorem requesterMove_f (s : State) : (requesterMove s).f = s.f := by
  unfold requesterMove; split <;> rfl

@[simp] theorem requesterMove_b (s : State) : (requesterMove s).b = s.b := by
  unfold requesterMove; split <;> rfl

@[simp] theorem requesterMove_c (s : State) : (requesterMove s).c = s.c := by
  unfold requesterMove; split <;> rfl

@[simp] theorem requesterMove_d (s : State) : (requesterMove s).d = s.d := by
  unfold requesterMove; split <;> rfl

@[simp] theorem requesterMove_e (s : State) : (requesterMove s).e = s.e := by
  unfold requesterMove; split <;> rfl

@[simp] theorem requesterMove_h (s : State) : (requesterMove s).h = s.h := by
  unfold requesterMove; split <;> rfl

@[simp] theorem requesterMove_l (s : State) : (requesterMove s).l = s.l := by
  unfold requesterMove; split <;> rfl

@[simp] theorem requesterMove_sp (s : State) : (requesterMove s).sp = s.sp := by
  unfold requesterMove; split <;> rfl

@[simp] theorem requesterMove_pc (s : State) : (requesterMove s).pc = s.pc := by
  unfold requesterMove; split <;> rfl

@[simp] theorem requesterMove_instClocks (s : State) : (requesterMove s).instClocks = s.instClocks := by
  unfold requesterMove; split <;> rfl

@[simp] theorem requesterMove_ime (s : State) : (requesterMove s).ime = s.ime := by
  unfold requesterMove; split <;> rfl

@[simp] theorem requesterMove_isHalted (s : State) : (requesterMove s).isHalted = s.isHalted := by
  unfold requesterMove; split <;> rfl

@[simp] theorem requesterMove_haltBug (s : State) : (requesterMove s).haltBug = s.haltBug := by
  unfold requesterMove; split <;> rfl

@[simp] theorem requesterMove_eiImeEnable (s : State) : (requesterMove s).eiImeEnable = s.eiImeEnable := by
  unfold requesterMove; split <;> rfl

@[simp] theorem requesterMove_fault (s : State) : (requesterMove s).fault = s.fault := by
  unfold requesterMove; split <;> rfl

@[simp] theorem requesterMove_opAddr (s : State) : (requesterMove s).opAddr = s.opAddr := by
  unfold requesterMove; split <;> rfl

@[simp] theorem requesterMove_divcnt (s : State) : (requesterMove s).divcnt = s.divcnt := by
  unfold requesterMove; split <;> rfl

@[simp] theorem requesterMove_tima (s : State) : (requesterMove s).tima = s.tima := by
  unfold requesterMove; split <;> rfl

@[simp] theorem requesterMove_tma (s : State) : (requesterMove s).tma = s.tma := by
  unfold requesterMove; split <;> rfl

@[simp] theorem requesterMove_tac (s : State) : (requesterMove s).tac = s.tac := by
  unfold requesterMove; split <;> rfl

@[simp] theorem requesterMove_ie (s : State) : (requesterMove s).ie = s.ie := by
  unfold requesterMove; split <;> rfl

@[simp] theorem requesterMove_mem (s : State) : (requesterMove s).mem = s.mem := by
  unfold requesterMove; split <;> rfl

@[simp] theorem requesterMove_busAnswers (s : State) : (requesterMove s).busAnswers = s.busAnswers := by
  unfold requesterMove; split <;> rfl

@[simp] theorem requesterMove_busEvents (s : State) : (requesterMove s).busEvents = s.busEvents := by
  unfold requesterMove; split <;> rfl

@[simp] theorem requesterMove_bpAddr (s : State) : (requesterMove s).bpAddr = s.bpAddr := by
  unfold requesterMove; split <;> rfl

@[simp] theorem requesterMove_bpEnabled (s : State) : (requesterMove s).bpEnabled = s.bpEnabled := by
  unfold requesterMove; split <;> rfl

@[simp] theorem requesterMove_cfg (s : State) : (requesterMove s).cfg = s.cfg := by
  unfold requesterMove; split <;> rfl

@[simp] theorem timaInc_a (s : State) : (timaInc s).a = s.a := by
  unfold timaInc; repeat' split
  all_goals rfl

@[simp] theorem timerStep_a (s : State) : (timerStep s).a = s.a := by
  unfold timerStep; split <;> simp [incDiv]

@[simp] theorem timaInc_f (s : State) : (timaInc s).f = s.f := by
  unfold timaInc; repeat' split
  all_goals rfl

@[simp] theorem timerStep_f (s : State) : (timerStep s).f = s.f := by
  unfold timerStep; split <;> simp [incDiv]

@[simp] theorem timaInc_b (s : State) : (timaInc s).b = s.b := by
  unfold timaInc; repeat' split
  all_goals rfl

@[simp] theorem timerStep_b (s : State) : (timerStep s).b = s.b := by
  unfold timerStep; split <;> simp [incDiv]

@[simp] theorem timaInc_c (s : State) : (timaInc s).c = s.c := by
  unfold timaInc; repeat' split
  all_goals rfl

@[simp] theorem timerStep_c (s : State) : (timerStep s).c = s.c := by
  unfold timerStep; split <;> simp [incDiv]

@[simp] theorem timaInc_d (s : State) : (timaInc s).d = s.d := by
  unfold timaInc; repeat' split
  all_goals rfl

@[simp] theorem timerStep_d (s : State) : (timerStep s).d = s.d := by
  unfold timerStep; split <;> simp [incDiv]

@[simp] theorem timaInc_e (s : State) : (timaInc s).e = s.e := by
  unfold timaInc; repeat' split
  all_goals rfl

@[simp] theorem timerStep_e (s : State) : (timerStep s).e = s.e := by
  unfold timerStep; split <;> simp [incDiv]

@[simp] theorem timaInc_h (s : State) : (timaInc s).h = s.h := by
  unfold timaInc; repeat' split
  all_goals rfl

@[simp] theorem timerStep_h (s : State) : (timerStep s).h = s.h := by
  unfold timerStep; split <;> simp [incDiv]

@[simp] theorem timaInc_l (s : State) : (timaInc s).l = s.l := by
  unfold timaInc; repeat' split
  all_goals rfl

@[simp] theorem timerStep_l (s : State) : (timerStep s).l = s.l := by
  unfold timerStep; split <;> simp [incDiv]

@[simp] theorem timaInc_sp (s : State) : (timaInc s).sp = s.sp := by
  unfold timaInc; repeat' split
  all_goals rfl

@[simp] theorem timerStep_sp (s : State) : (timerStep s).sp = s.sp := by
  unfold timerStep; split <;> simp [incDiv]

@[simp] theorem timaInc_pc (s : State) : (timaInc s).pc = s.pc := by
  unfold timaInc; repeat' split
  all_goals rfl

@[simp] theorem timerStep_pc (s : State) : (timerStep s).pc = s.pc := by
  unfold timerStep; split <;> simp [incDiv]

@[simp] theorem timaInc_instClocks (s : State) : (timaInc s).instClocks = s.instClocks := by
  unfold timaInc; repeat' split
  all_goals rfl

@[simp] theorem timerStep_instClocks (s : State) : (timerStep s).instClocks = s.instClocks := by
  unfold timerStep; split <;> simp [incDiv]

@[simp] theorem timaInc_ime (s : State) : (timaInc s).ime = s.ime := by
  unfold timaInc; repeat' split
  all_goals rfl

@[simp] theorem timerStep_ime (s : State) : (timerStep s).ime = s.ime := by
  unfold timerStep; split <;> simp [incDiv]

@[simp] theorem timaInc_isHalted (s : State) : (timaInc s).isHalted = s.isHalted := by
  unfold timaInc; repeat' split
  all_goals rfl

@[simp] theorem timerStep_isHalted (s : State) : (timerStep s).isHalted = s.isHalted := by
  unfold timerStep; split <;> simp [incDiv]

@[simp] theorem timaInc_haltBug (s : State) : (timaInc s).haltBug = s.haltBug := by
  unfold timaInc; repeat' split
  all_goals rfl

@[simp] theorem timerStep_haltBug (s : State) : (timerStep s).haltBug = s.haltBug := by
  unfold timerStep; split <;> simp [incDiv]

@[simp] theorem timaInc_eiImeEnable (s : State) : (timaInc s).eiImeEnable = s.eiImeEnable := by
  unfold timaInc; repeat' split
  all_goals rfl

@[simp] theorem timerStep_eiImeEnable (s : State) : (timerStep s).eiImeEnable = s.eiImeEnable := by
  unfold timerStep; split <;> simp [incDiv]

@[simp] theorem timaInc_fault (s : State) : (timaInc s).fault = s.fault := by
  unfold timaInc; repeat' split
  all_goals rfl

@[simp] theorem timerStep_fault (s : State) : (timerStep s).fault = s.fault := by
  unfold timerStep; split <;> simp [incDiv]

@[simp] theorem timaInc_opAddr (s : State) : (timaInc s).opAddr = s.opAddr := by
  unfold timaInc; repeat' split
  all_goals rfl

@[simp] theorem timerStep_opAddr (s : State) : (timerStep s).opAddr = s.opAddr := by
  unfold timerStep; split <;> simp [incDiv]

@[simp] theorem timaInc_tma (s : State) : (timaInc s).tma = s.tma := by
  unfold timaInc; repeat' split
  all_goals rfl

@[simp] theorem timerStep_tma (s : State) : (timerStep s).tma = s.tma := by
  unfold timerStep; split <;> simp [incDiv]

@[simp] theorem timaInc_tac (s : State) : (timaInc s).tac = s.tac := by
  unfold timaInc; repeat' split
  all_goals rfl

@[simp] theorem timerStep_tac (s : State) : (timerStep s).tac = s.tac := by
  unfold timerStep; split <;> simp [incDiv]

@[simp] theorem timaInc_ie (s : State) : (timaInc s).ie = s.ie := by
  unfold timaInc; repeat' split
  all_goals rfl

@[simp] theorem timerStep_ie (s : State) : (timerStep s).ie = s.ie := by
  unfold timerStep; split <;> simp [incDiv]

@[simp] theorem timaInc_mem (s : State) : (timaInc s).mem = s.mem := by
  unfold timaInc; repeat' split
  all_goals rfl

@[simp] theorem timerStep_mem (s : State) : (timerStep s).mem = s.mem := by
  unfold timerStep; split <;> simp [incDiv]

@[simp] theorem timaInc_busAnswers (s : State) : (timaInc s).busAnswers = s.busAnswers := by
  unfold timaInc; repeat' split
  all_goals rfl

@[simp] theorem timerStep_busAnswers (s : State) : (timerStep s).busAnswers = s.busAnswers := by
  unfold timerStep; split <;> simp [incDiv]

@[simp] theorem timaInc_busEvents (s : State) : (timaInc s).busEvents = s.busEvents := by
  unfold timaInc; repeat' split
  all_goals rfl

@[simp] theorem timerStep_busEvents (s : State) : (timerStep s).busEvents = s.busEvents := by
  unfold timerStep; split <;> simp [incDiv]

@[simp] theorem timaInc_requests (s : State) : (timaInc s).requests = s.requests := by
  unfold timaInc; repeat' split
  all_goals rfl

@[simp] theorem timerStep_requests (s : State) : (timerStep s).requests = s.requests := by
  unfold timerStep; split <;> simp [incDiv]

@[simp] theorem timaInc_bpAddr (s : State) : (timaInc s).bpAddr = s.bpAddr := by
  unfold timaInc; repeat' split
  all_goals rfl

@[simp] theorem timerStep_bpAddr (s : State) : (timerStep s).bpAddr = s.bpAddr := by
  unfold timerStep; split <;> simp [incDiv]

@[simp] theorem timaInc_bpEnabled (s : State) : (timaInc s).bpEnabled = s.bpEnabled := by
  unfold timaInc; repeat' split
  all_goals rfl

@[simp] theorem timerStep_bpEnabled (s : State) : (timerStep s).bpEnabled = s.bpEnabled := by
  unfold timerStep; split <;> simp [incDiv]

@[simp] theorem timaInc_cfg (s : State) : (timaInc s).cfg = s.cfg := by
  unfold timaInc; repeat' split
  all_goals rfl

@[simp] theorem timerStep_cfg (s : State) : (timerStep s).cfg = s.cfg := by
  unfold timerStep; split <;> simp [incDiv]

@[simp] theorem timaInc_divcnt (s : State) : (timaInc s).divcnt = s.divcnt := by
  unfold timaInc; repeat' split
  all_goals rfl

/-- The divider goes up by one in every tick (R296). -/
@[simp] theorem timerStep_divcnt (s : State) : (timerStep s).divcnt = s.divcnt + 1#16 := by
  unfold timerStep; split <;> simp [incDiv]

@[simp] theorem wake_a (s : State) : (wake s).a = s.a := rfl

@[simp] theorem wake_f (s : State) : (wake s).f = s.f := rfl

@[simp] theorem wake_b (s : State) : (wake s).b = s.b := rfl

@[simp] theorem wake_c (s : State) : (wake s).c = s.c := rfl

@[simp] theorem wake_d (s : State) : (wake s).d = s.d := rfl

@[simp] theorem wake_e (s : State) : (wake s).e = s.e := rfl

@[simp] theorem wake_h (s : State) : (wake s).h = s.h := rfl

@[simp] theorem wake_l (s : State) : (wake s).l = s.l := rfl

@[simp] theorem wake_sp (s : State) : (wake s).sp = s.sp := rfl

@[simp] theorem wake_pc (s : State) : (wake s).pc = s.pc := rfl

@[simp] theorem wake_instClocks (s : State) : (wake s).instClocks = s.instClocks := rfl

@[simp] theorem wake_ime (s : State) : (wake s).ime = s.ime := rfl

@[simp] theorem wake_haltBug (s : State) : (wake s).haltBug = s.haltBug := rfl

@[simp] theorem wake_eiImeEnable (s : State) : (wake s).eiImeEnable = s.eiImeEnable := rfl

@[simp] theorem wake_fault (s : State) : (wake s).fault = s.fault := rfl

@[simp] theorem wake_opAddr (s : State) : (wake s).opAddr = s.opAddr := rfl

@[simp] theorem wake_divcnt (s : State) : (wake s).divcnt = s.divcnt := rfl

@[simp] theorem wake_tima (s : State) : (wake s).tima = s.tima := rfl

@[simp] theorem wake_tma (s : State) : (wake s).tma = s.tma := rfl

@[simp] theorem wake_tac (s : State) : (wake s).tac = s.tac := rfl

@[simp] theorem wake_ifr (s : State) : (wake s).ifr = s.ifr := rfl

@[simp] theorem wake_ie (s : State) : (wake s).ie = s.ie := rfl

@[simp] theorem wake_mem (s : State) : (wake s).mem = s.mem := rfl

@[simp] theorem wake_busAnswers (s : State) : (wake s).busAnswers = s.busAnswers := rfl

@[simp] theorem wake_busEvents (s : State) : (wake s).busEvents = s.busEvents := rfl

@[simp] theorem wake_requests (s : State) : (wake s).requests = s.requests := rfl

@[simp] theorem wake_bpAddr (s : State) : (wake s).bpAddr = s.bpAddr := rfl

@[simp] theorem wake_bpEnabled (s : State) : (wake s).bpEnabled = s.bpEnabled := rfl

@[simp] theorem wake_cfg (s : State) : (wake s).cfg = s.cfg := rfl

@[simp] theorem countDown_a (s : State) : (countDown s).a = s.a := rfl

@[simp] theorem countDown_f (s : State) : (countDown s).f = s.f := rfl

@[simp] theorem countDown_b (s : State) : (countDown s).b = s.b := rfl

@[simp] theorem countDown_c (s : State) : (countDown s).c = s.c := rfl

@[simp] theorem countDown_d (s : State) : (countDown s).d = s.d := rfl

@[simp] theorem countDown_e (s : State) : (countDown s).e = s.e := rfl

@[simp] theorem countDown_h (s : State) : (countDown s).h = s.h := rfl

@[simp] theorem countDown_l (s : State) : (countDown s).l = s.l := rfl

@[simp] theorem countDown_sp (s : State) : (countDown s).sp = s.sp := rfl

@[simp] theorem countDown_pc (s : State) : (countDown s).pc = s.pc := rfl

@[simp] theorem countDown_instClocks (s : State) : (countDown s).instClocks = s.instClocks - 1 := rfl

@[simp] theorem countDown_ime (s : State) : (countDown s).ime = s.ime := rfl

@[simp] theorem countDown_isHalted (s : State) : (countDown s).isHalted = s.isHalted := rfl

@[simp] theorem countDown_haltBug (s : State) : (countDown s).haltBug = s.haltBug := rfl

@[simp] theorem countDown_eiImeEnable (s : State) : (countDown s).eiImeEnable = s.eiImeEnable := rfl

@[simp] theorem countDown_fault (s : State) : (countDown s).fault = s.fault := rfl

@[simp] theorem countDown_opAddr (s : State) : (countDown s).opAddr = s.opAddr := rfl

@[simp] theorem countDown_divcnt (s : State) : (countDown s).divcnt = s.divcnt := rfl

@[simp] theorem countDown_tima (s : State) : (countDown s).tima = s.tima := rfl

@[simp] theorem countDown_tma (s : State) : (countDown s).tma = s.tma := rfl

@[simp] theorem countDown_tac (s : State) : (countDown s).tac = s.tac := rfl

@[simp] theorem countDown_ifr (s : State) : (countDown s).ifr = s.ifr := rfl

@[simp] theorem countDown_ie (s : State) : (countDown s).ie = s.ie := rfl

@[simp] theorem countDown_mem (s : State) : (countDown s).mem = s.mem := rfl

@[simp] theorem countDown_busAnswers (s : State) : (countDown s).busAnswers = s.busAnswers := rfl

@[simp] theorem countDown_busEvents (s : State) : (countDown s).busEvents = s.busEvents := rfl

@[simp] theorem countDown_requests (s : State) : (countDown s).requests = s.requests := rfl

@[simp] theorem countDown_bpAddr (s : State) : (countDown s).bpAddr = s.bpAddr := rfl

@[simp] theorem countDown_bpEnabled (s : State) : (countDown s).bpEnabled = s.bpEnabled := rfl

@[simp] theorem countDown_cfg (s : State) : (countDown s).cfg = s.cfg := rfl

/-- Everything the end of a fetch tick can do (R289, R291). -/
theorem finishFetchTick_cases (armed : Bool) (op : Byte) (s : State) :
    (s.fault ≠ none ∧ finishFetchTick armed op s = s) ∨
    (s.fault = none ∧ finishFetchTick armed op s =
      { s with ime := s.ime || (armed && decide (op ≠ 0xF3#8)), instClocks := s.instClocks - 1 }) := by
  unfold finishFetchTick
  cases h : s.fault <;> simp [countDown]

/-- Everything a step that answers a next state has done. -/
theorem step_cases {s t : State} (h : step s = .next t) :
    s.fault = none ∧
    ((s.instClocks ≠ 0 ∧ t = countDown (timerStep (requesterMove s))) ∨
     (s.instClocks = 0 ∧ s.ime = true ∧ pending (timerStep (requesterMove s)) ≠ 0#5 ∧
        t = countDown (dispatch (pending (timerStep (requesterMove s))) (wake (timerStep (requesterMove s))))) ∨
     (s.instClocks = 0 ∧ ¬(s.ime = true ∧ pending (timerStep (requesterMove s)) ≠ 0#5) ∧
        (wake (timerStep (requesterMove s))).isHalted = false ∧
        fetchExecute (wake (timerStep (requesterMove s))) = .next t) ∨
     (s.instClocks = 0 ∧ ¬(s.ime = true ∧ pending (timerStep (requesterMove s)) ≠ 0#5) ∧
        (wake (timerStep (requesterMove s))).isHalted = true ∧
        t = countDown { wake (timerStep (requesterMove s)) with instClocks := 4 })) := by
  unfold step agentsTick tick at h
  split at h
  · cases h
  · rename_i hf
    refine ⟨by simpa using hf, ?_⟩
    by_cases hz : s.instClocks = 0
    · simp only [timerStep_instClocks, requesterMove_instClocks, hz, if_true] at h
      unfold boundaryTick at h
      simp only [timerStep_ime, requesterMove_ime] at h
      split at h
      · rename_i hd
        cases h
        exact .inr (.inl ⟨hz, hd.1, hd.2, rfl⟩)
      · rename_i hd
        split at h
        · rename_i hh
          exact .inr (.inr (.inl ⟨hz, hd, hh, h⟩))
        · rename_i hh
          cases h
          exact .inr (.inr (.inr ⟨hz, hd, by simpa using hh, rfl⟩))
    · simp only [timerStep_instClocks, requesterMove_instClocks, hz, if_false] at h
      cases h
      exact .inl ⟨hz, rfl⟩

/-- A fetch tick runs the fetched instruction's meaning and ends as R288 and R291 say. -/
theorem fetchExecute_eq {s t : State} (h : fetchExecute s = .next t) :
    ∃ u, exec (fetchInstr s).instr (fetchInstr s).state = .next u ∧
      t = finishFetchTick s.eiImeEnable (fetchInstr s).op u := by
  simp only [fetchExecute] at h
  split at h
  · rename_i u hu
    cases h
    exact ⟨u, hu, rfl⟩
  · cases h
  · cases h

@[simp] theorem fetchInstr_a (s : State) : (fetchInstr s).state.a = s.a := by
  simp only [fetchInstr]; split <;> simp [fetchOpcode, fetch8]

@[simp] theorem fetchInstr_f (s : State) : (fetchInstr s).state.f = s.f := by
  simp only [fetchInstr]; split <;> simp [fetchOpcode, fetch8]

@[simp] theorem fetchInstr_b (s : State) : (fetchInstr s).state.b = s.b := by
  simp only [fetchInstr]; split <;> simp [fetchOpcode, fetch8]

@[simp] theorem fetchInstr_c (s : State) : (fetchInstr s).state.c = s.c := by
  simp only [fetchInstr]; split <;> simp [fetchOpcode, fetch8]

@[simp] theorem fetchInstr_d (s : State) : (fetchInstr s).state.d = s.d := by
  simp only [fetchInstr]; split <;> simp [fetchOpcode, fetch8]

@[simp] theorem fetchInstr_e (s : State) : (fetchInstr s).state.e = s.e := by
  simp only [fetchInstr]; split <;> simp [fetchOpcode, fetch8]

@[simp] theorem fetchInstr_h (s : State) : (fetchInstr s).state.h = s.h := by
  simp only [fetchInstr]; split <;> simp [fetchOpcode, fetch8]

@[simp] theorem fetchInstr_l (s : State) : (fetchInstr s).state.l = s.l := by
  simp only [fetchInstr]; split <;> simp [fetchOpcode, fetch8]

@[simp] theorem fetchInstr_sp (s : State) : (fetchInstr s).state.sp = s.sp := by
  simp only [fetchInstr]; split <;> simp [fetchOpcode, fetch8]

@[simp] theorem fetchInstr_instClocks (s : State) : (fetchInstr s).state.instClocks = s.instClocks := by
  simp only [fetchInstr]; split <;> simp [fetchOpcode, fetch8]

@[simp] theorem fetchInstr_ime (s : State) : (fetchInstr s).state.ime = s.ime := by
  simp only [fetchInstr]; split <;> simp [fetchOpcode, fetch8]

@[simp] theorem fetchInstr_isHalted (s : State) : (fetchInstr s).state.isHalted = s.isHalted := by
  simp only [fetchInstr]; split <;> simp [fetchOpcode, fetch8]

@[simp] theorem fetchInstr_fault (s : State) : (fetchInstr s).state.fault = s.fault := by
  simp only [fetchInstr]; split <;> simp [fetchOpcode, fetch8]

@[simp] theorem fetchInstr_divcnt (s : State) : (fetchInstr s).state.divcnt = s.divcnt := by
  simp only [fetchInstr]; split <;> simp [fetchOpcode, fetch8]

@[simp] theorem fetchInstr_tima (s : State) : (fetchInstr s).state.tima = s.tima := by
  simp only [fetchInstr]; split <;> simp [fetchOpcode, fetch8]

@[simp] theorem fetchInstr_tma (s : State) : (fetchInstr s).state.tma = s.tma := by
  simp only [fetchInstr]; split <;> simp [fetchOpcode, fetch8]

@[simp] theorem fetchInstr_tac (s : State) : (fetchInstr s).state.tac = s.tac := by
  simp only [fetchInstr]; split <;> simp [fetchOpcode, fetch8]

@[simp] theorem fetchInstr_ifr (s : State) : (fetchInstr s).state.ifr = s.ifr := by
  simp only [fetchInstr]; split <;> simp [fetchOpcode, fetch8]

@[simp] theorem fetchInstr_ie (s : State) : (fetchInstr s).state.ie = s.ie := by
  simp only [fetchInstr]; split <;> simp [fetchOpcode, fetch8]

@[simp] theorem fetchInstr_mem (s : State) : (fetchInstr s).state.mem = s.mem := by
  simp only [fetchInstr]; split <;> simp [fetchOpcode, fetch8]

@[simp] theorem fetchInstr_requests (s : State) : (fetchInstr s).state.requests = s.requests := by
  simp only [fetchInstr]; split <;> simp [fetchOpcode, fetch8]

@[simp] theorem fetchInstr_bpAddr (s : State) : (fetchInstr s).state.bpAddr = s.bpAddr := by
  simp only [fetchInstr]; split <;> simp [fetchOpcode, fetch8]

@[simp] theorem fetchInstr_bpEnabled (s : State) : (fetchInstr s).state.bpEnabled = s.bpEnabled := by
  simp only [fetchInstr]; split <;> simp [fetchOpcode, fetch8]

@[simp] theorem fetchInstr_cfg (s : State) : (fetchInstr s).state.cfg = s.cfg := by
  simp only [fetchInstr]; split <;> simp [fetchOpcode, fetch8]

/-- The fetch consumes the HALT bug and the armed EI, and notes the opcode's address (R288). -/
theorem fetchInstr_consumes (s : State) :
    (fetchInstr s).state.haltBug = false ∧ (fetchInstr s).state.eiImeEnable = false ∧
      (fetchInstr s).state.opAddr = s.pc := by
  simp only [fetchInstr]; split <;> simp [fetchOpcode, fetch8]

end Sys2Proof.Machine
end

