-- ==== Sys2Proof/Tests/Slice0.lean ====
section
/-! SUPPORT. The model's own tests: well-formedness, decoding of every table row, one step of each worked example of
95_test_vectors.md (at most two an instruction), and for every statement with hypotheses a witness that meets them. Expected
results come from the spec's tables and examples. -/

namespace Sys2Proof.Tests

open Sys2Proof Sys2Proof.Machine Sys2Proof.Spec

/-- The state the worked examples start in: right after reset, with code placed at 0xC000. -/
def begin : State := { State.reset with pc := 0xC000#16 }

/-- Code placed at PC. -/
def code (bytes : List Byte) (s : State) : State := placeBytes s.pc bytes s

/-- The next step answers a state with the property. -/
def steps (s : State) (p : State → Bool) : Bool :=
  match step s with
  | .next t => p t
  | .fault _ => false
  | .refused _ => false

/-- The instruction answers a state with the property. -/
def runs (i : Instr) (s : State) (p : State → Bool) : Bool :=
  match exec i s with
  | .next t => p t
  | .fault _ => false
  | .refused _ => false

/-- The bytes decode to the instruction with nothing left, and are its encoding. -/
def reads (bytes : List Byte) (i : Instr) : Bool :=
  decide (encode i = bytes) &&
    match decode bytes with
    | .ok (j, []) => decide (j = i)
    | _ => false

/-- `s` with `k` ticks charged. -/
def charged (k : Nat) (s : State) : State := { s with instClocks := k }

/-! ## Well-formedness -/

/-- R110: 0xCB is a prefix and no instruction on its own. -/
theorem test_wellFormed_refuses_prefix : Instr.wellFormed (.prefixCB 0x37#8) = false := by decide

theorem test_wellFormed_accepts_cb : Instr.wellFormed (cbInstr 0x37#8) = true := by decide

theorem test_memory_form_refuses_unsorted : Memory.wf [(0xC001, 0x01#8), (0xC000, 0x01#8)] = false := by decide

theorem test_memory_form_refuses_unlisted_value : Memory.wf [(0xC000, 0x00#8)] = false := by decide

theorem test_memory_form_refuses_in_block_address : Memory.wf [(0xFF0F, 0x01#8)] = false := by decide

theorem test_memory_form_refuses_beyond_the_space : Memory.wf [(0x10000, 0x01#8)] = false := by decide

/-! ## Decoding -/

/-- R111 is 16 rows of 16 cells. -/
theorem primaryRows_complete : primaryRows.map List.length = List.replicate 16 16 := by decide

/-- The `encoding` column, first bytes 0x00 to 0x0F. -/
theorem test_decode_row_0 : ([([0b00000000#8], .nop),
   ([0b00000001#8, 0x34#8, 0x12#8], .ldBCNn 0x1234#16),
   ([0b00000010#8], .ldAtBCA),
   ([0b00000011#8], .incBC),
   ([0b00000100#8], .incB),
   ([0b00000101#8], .decB),
   ([0b00000110#8, 0x5A#8], .ldBN 0x5A#8),
   ([0b00000111#8], .rlca),
   ([0b00001000#8, 0x34#8, 0x12#8], .ldAtNnSP 0x1234#16),
   ([0b00001001#8], .addHLBC),
   ([0b00001010#8], .ldAAtBC),
   ([0b00001011#8], .decBC),
   ([0b00001100#8], .incC),
   ([0b00001101#8], .decC),
   ([0b00001110#8, 0x5A#8], .ldCN 0x5A#8),
   ([0b00001111#8], .rrca)] : List (List Byte × Instr)).all (fun r => reads r.1 r.2) = true := by
  decide

/-- The `encoding` column, first bytes 0x10 to 0x1F. -/
theorem test_decode_row_1 : ([([0b00010000#8, 0x5A#8], .stop 0x5A#8),
   ([0b00010001#8, 0x34#8, 0x12#8], .ldDENn 0x1234#16),
   ([0b00010010#8], .ldAtDEA),
   ([0b00010011#8], .incDE),
   ([0b00010100#8], .incD),
   ([0b00010101#8], .decD),
   ([0b00010110#8, 0x5A#8], .ldDN 0x5A#8),
   ([0b00010111#8], .rla),
   ([0b00011000#8, 0x5A#8], .jrE 0x5A#8),
   ([0b00011001#8], .addHLDE),
   ([0b00011010#8], .ldAAtDE),
   ([0b00011011#8], .decDE),
   ([0b00011100#8], .incE),
   ([0b00011101#8], .decE),
   ([0b00011110#8, 0x5A#8], .ldEN 0x5A#8),
   ([0b00011111#8], .rra)] : List (List Byte × Instr)).all (fun r => reads r.1 r.2) = true := by
  decide

/-- The `encoding` column, first bytes 0x20 to 0x2F. -/
theorem test_decode_row_2 : ([([0b00100000#8, 0x5A#8], .jrNZE 0x5A#8),
   ([0b00100001#8, 0x34#8, 0x12#8], .ldHLNn 0x1234#16),
   ([0b00100010#8], .ldAtHLIncA),
   ([0b00100011#8], .incHL),
   ([0b00100100#8], .incH),
   ([0b00100101#8], .decH),
   ([0b00100110#8, 0x5A#8], .ldHN 0x5A#8),
   ([0b00100111#8], .daa),
   ([0b00101000#8, 0x5A#8], .jrZE 0x5A#8),
   ([0b00101001#8], .addHLHL),
   ([0b00101010#8], .ldAAtHLInc),
   ([0b00101011#8], .decHL),
   ([0b00101100#8], .incL),
   ([0b00101101#8], .decL),
   ([0b00101110#8, 0x5A#8], .ldLN 0x5A#8),
   ([0b00101111#8], .cpl)] : List (List Byte × Instr)).all (fun r => reads r.1 r.2) = true := by
  decide

/-- The `encoding` column, first bytes 0x30 to 0x3F. -/
theorem test_decode_row_3 : ([([0b00110000#8, 0x5A#8], .jrNCE 0x5A#8),
   ([0b00110001#8, 0x34#8, 0x12#8], .ldSPNn 0x1234#16),
   ([0b00110010#8], .ldAtHLDecA),
   ([0b00110011#8], .incSP),
   ([0b00110100#8], .incAtHL),
   ([0b00110101#8], .decAtHL),
   ([0b00110110#8, 0x5A#8], .ldAtHLN 0x5A#8),
   ([0b00110111#8], .scf),
   ([0b00111000#8, 0x5A#8], .jrCE 0x5A#8),
   ([0b00111001#8], .addHLSP),
   ([0b00111010#8], .ldAAtHLDec),
   ([0b00111011#8], .decSP),
   ([0b00111100#8], .incA),
   ([0b00111101#8], .decA),
   ([0b00111110#8, 0x5A#8], .ldAN 0x5A#8),
   ([0b00111111#8], .ccf)] : List (List Byte × Instr)).all (fun r => reads r.1 r.2) = true := by
  decide

/-- The `encoding` column, first bytes 0x40 to 0x4F. -/
theorem test_decode_row_4 : ([([0b01000000#8], .ldBB),
   ([0b01000001#8], .ldBC),
   ([0b01000010#8], .ldBD),
   ([0b01000011#8], .ldBE),
   ([0b01000100#8], .ldBH),
   ([0b01000101#8], .ldBL),
   ([0b01000110#8], .ldBAtHL),
   ([0b01000111#8], .ldBA),
   ([0b01001000#8], .ldCB),
   ([0b01001001#8], .ldCC),
   ([0b01001010#8], .ldCD),
   ([0b01001011#8], .ldCE),
   ([0b01001100#8], .ldCH),
   ([0b01001101#8], .ldCL),
   ([0b01001110#8], .ldCAtHL),
   ([0b01001111#8], .ldCA)] : List (List Byte × Instr)).all (fun r => reads r.1 r.2) = true := by
  decide

/-- The `encoding` column, first bytes 0x50 to 0x5F. -/
theorem test_decode_row_5 : ([([0b01010000#8], .ldDB),
   ([0b01010001#8], .ldDC),
   ([0b01010010#8], .ldDD),
   ([0b01010011#8], .ldDE),
   ([0b01010100#8], .ldDH),
   ([0b01010101#8], .ldDL),
   ([0b01010110#8], .ldDAtHL),
   ([0b01010111#8], .ldDA),
   ([0b01011000#8], .ldEB),
   ([0b01011001#8], .ldEC),
   ([0b01011010#8], .ldED),
   ([0b01011011#8], .ldEE),
   ([0b01011100#8], .ldEH),
   ([0b01011101#8], .ldEL),
   ([0b01011110#8], .ldEAtHL),
   ([0b01011111#8], .ldEA)] : List (List Byte × Instr)).all (fun r => reads r.1 r.2) = true := by
  decide

/-- The `encoding` column, first bytes 0x60 to 0x6F. -/
theorem test_decode_row_6 : ([([0b01100000#8], .ldHB),
   ([0b01100001#8], .ldHC),
   ([0b01100010#8], .ldHD),
   ([0b01100011#8], .ldHE),
   ([0b01100100#8], .ldHH),
   ([0b01100101#8], .ldHL),
   ([0b01100110#8], .ldHAtHL),
   ([0b01100111#8], .ldHA),
   ([0b01101000#8], .ldLB),
   ([0b01101001#8], .ldLC),
   ([0b01101010#8], .ldLD),
   ([0b01101011#8], .ldLE),
   ([0b01101100#8], .ldLH),
   ([0b01101101#8], .ldLL),
   ([0b01101110#8], .ldLAtHL),
   ([0b01101111#8], .ldLA)] : List (List Byte × Instr)).all (fun r => reads r.1 r.2) = true := by
  decide

/-- The `encoding` column, first bytes 0x70 to 0x7F. -/
theorem test_decode_row_7 : ([([0b01110000#8], .ldAtHLB),
   ([0b01110001#8], .ldAtHLC),
   ([0b01110010#8], .ldAtHLD),
   ([0b01110011#8], .ldAtHLE),
   ([0b01110100#8], .ldAtHLH),
   ([0b01110101#8], .ldAtHLL),
   ([0b01110110#8], .halt),
   ([0b01110111#8], .ldAtHLA),
   ([0b01111000#8], .ldAB),
   ([0b01111001#8], .ldAC),
   ([0b01111010#8], .ldAD),
   ([0b01111011#8], .ldAE),
   ([0b01111100#8], .ldAH),
   ([0b01111101#8], .ldAL),
   ([0b01111110#8], .ldAAtHL),
   ([0b01111111#8], .ldAA)] : List (List Byte × Instr)).all (fun r => reads r.1 r.2) = true := by
  decide

/-- The `encoding` column, first bytes 0x80 to 0x8F. -/
theorem test_decode_row_8 : ([([0b10000000#8], .addAB),
   ([0b10000001#8], .addAC),
   ([0b10000010#8], .addAD),
   ([0b10000011#8], .addAE),
   ([0b10000100#8], .addAH),
   ([0b10000101#8], .addAL),
   ([0b10000110#8], .addAAtHL),
   ([0b10000111#8], .addAA),
   ([0b10001000#8], .adcAB),
   ([0b10001001#8], .adcAC),
   ([0b10001010#8], .adcAD),
   ([0b10001011#8], .adcAE),
   ([0b10001100#8], .adcAH),
   ([0b10001101#8], .adcAL),
   ([0b10001110#8], .adcAAtHL),
   ([0b10001111#8], .adcAA)] : List (List Byte × Instr)).all (fun r => reads r.1 r.2) = true := by
  decide

/-- The `encoding` column, first bytes 0x90 to 0x9F. -/
theorem test_decode_row_9 : ([([0b10010000#8], .subAB),
   ([0b10010001#8], .subAC),
   ([0b10010010#8], .subAD),
   ([0b10010011#8], .subAE),
   ([0b10010100#8], .subAH),
   ([0b10010101#8], .subAL),
   ([0b10010110#8], .subAAtHL),
   ([0b10010111#8], .subAA),
   ([0b10011000#8], .sbcAB),
   ([0b10011001#8], .sbcAC),
   ([0b10011010#8], .sbcAD),
   ([0b10011011#8], .sbcAE),
   ([0b10011100#8], .sbcAH),
   ([0b10011101#8], .sbcAL),
   ([0b10011110#8], .sbcAAtHL),
   ([0b10011111#8], .sbcAA)] : List (List Byte × Instr)).all (fun r => reads r.1 r.2) = true := by
  decide

/-- The `encoding` column, first bytes 0xA0 to 0xAF. -/
theorem test_decode_row_A : ([([0b10100000#8], .andAB),
   ([0b10100001#8], .andAC),
   ([0b10100010#8], .andAD),
   ([0b10100011#8], .andAE),
   ([0b10100100#8], .andAH),
   ([0b10100101#8], .andAL),
   ([0b10100110#8], .andAAtHL),
   ([0b10100111#8], .andAA),
   ([0b10101000#8], .xorAB),
   ([0b10101001#8], .xorAC),
   ([0b10101010#8], .xorAD),
   ([0b10101011#8], .xorAE),
   ([0b10101100#8], .xorAH),
   ([0b10101101#8], .xorAL),
   ([0b10101110#8], .xorAAtHL),
   ([0b10101111#8], .xorAA)] : List (List Byte × Instr)).all (fun r => reads r.1 r.2) = true := by
  decide

/-- The `encoding` column, first bytes 0xB0 to 0xBF. -/
theorem test_decode_row_B : ([([0b10110000#8], .orAB),
   ([0b10110001#8], .orAC),
   ([0b10110010#8], .orAD),
   ([0b10110011#8], .orAE),
   ([0b10110100#8], .orAH),
   ([0b10110101#8], .orAL),
   ([0b10110110#8], .orAAtHL),
   ([0b10110111#8], .orAA),
   ([0b10111000#8], .cpAB),
   ([0b10111001#8], .cpAC),
   ([0b10111010#8], .cpAD),
   ([0b10111011#8], .cpAE),
   ([0b10111100#8], .cpAH),
   ([0b10111101#8], .cpAL),
   ([0b10111110#8], .cpAAtHL),
   ([0b10111111#8], .cpAA)] : List (List Byte × Instr)).all (fun r => reads r.1 r.2) = true := by
  decide

/-- The `encoding` column, first bytes 0xC0 to 0xCF. -/
theorem test_decode_row_C : ([([0b11000000#8], .retNZ),
   ([0b11000001#8], .popBC),
   ([0b11000010#8, 0x34#8, 0x12#8], .jpNZNn 0x1234#16),
   ([0b11000011#8, 0x34#8, 0x12#8], .jpNn 0x1234#16),
   ([0b11000100#8, 0x34#8, 0x12#8], .callNZNn 0x1234#16),
   ([0b11000101#8], .pushBC),
   ([0b11000110#8, 0x5A#8], .addAN 0x5A#8),
   ([0b11000111#8], .rst00H),
   ([0b11001000#8], .retZ),
   ([0b11001001#8], .ret),
   ([0b11001010#8, 0x34#8, 0x12#8], .jpZNn 0x1234#16),
   ([0b11001100#8, 0x34#8, 0x12#8], .callZNn 0x1234#16),
   ([0b11001101#8, 0x34#8, 0x12#8], .callNn 0x1234#16),
   ([0b11001110#8, 0x5A#8], .adcAN 0x5A#8),
   ([0b11001111#8], .rst08H)] : List (List Byte × Instr)).all (fun r => reads r.1 r.2) = true := by
  decide

/-- The `encoding` column, first bytes 0xD0 to 0xDF. -/
theorem test_decode_row_D : ([([0b11010000#8], .retNC),
   ([0b11010001#8], .popDE),
   ([0b11010010#8, 0x34#8, 0x12#8], .jpNCNn 0x1234#16),
   ([0b11010011#8], .invalidD3),
   ([0b11010100#8, 0x34#8, 0x12#8], .callNCNn 0x1234#16),
   ([0b11010101#8], .pushDE),
   ([0b11010110#8, 0x5A#8], .subAN 0x5A#8),
   ([0b11010111#8], .rst10H),
   ([0b11011000#8], .retC),
   ([0b11011001#8], .reti),
   ([0b11011010#8, 0x34#8, 0x12#8], .jpCNn 0x1234#16),
   ([0b11011011#8], .invalidDB),
   ([0b11011100#8, 0x34#8, 0x12#8], .callCNn 0x1234#16),
   ([0b11011101#8], .invalidDD),
   ([0b11011110#8, 0x5A#8], .sbcAN 0x5A#8),
   ([0b11011111#8], .rst18H)] : List (List Byte × Instr)).all (fun r => reads r.1 r.2) = true := by
  decide

/-- The `encoding` column, first bytes 0xE0 to 0xEF. -/
theorem test_decode_row_E : ([([0b11100000#8, 0x5A#8], .ldhAtNA 0x5A#8),
   ([0b11100001#8], .popHL),
   ([0b11100010#8], .ldAtCA),
   ([0b11100011#8], .invalidE3),
   ([0b11100100#8], .invalidE4),
   ([0b11100101#8], .pushHL),
   ([0b11100110#8, 0x5A#8], .andAN 0x5A#8),
   ([0b11100111#8], .rst20H),
   ([0b11101000#8, 0x5A#8], .addSPE 0x5A#8),
   ([0b11101001#8], .jpHL),
   ([0b11101010#8, 0x34#8, 0x12#8], .ldAtNnA 0x1234#16),
   ([0b11101011#8], .invalidEB),
   ([0b11101100#8], .invalidEC),
   ([0b11101101#8], .invalidED),
   ([0b11101110#8, 0x5A#8], .xorAN 0x5A#8),
   ([0b11101111#8], .rst28H)] : List (List Byte × Instr)).all (fun r => reads r.1 r.2) = true := by
  decide

/-- The `encoding` column, first bytes 0xF0 to 0xFF. -/
theorem test_decode_row_F : ([([0b11110000#8, 0x5A#8], .ldhAAtN 0x5A#8),
   ([0b11110001#8], .popAF),
   ([0b11110010#8], .ldAAtC),
   ([0b11110011#8], .di),
   ([0b11110100#8], .invalidF4),
   ([0b11110101#8], .pushAF),
   ([0b11110110#8, 0x5A#8], .orAN 0x5A#8),
   ([0b11110111#8], .rst30H),
   ([0b11111000#8, 0x5A#8], .ldHLSPE 0x5A#8),
   ([0b11111001#8], .ldSPHL),
   ([0b11111010#8, 0x34#8, 0x12#8], .ldAAtNn 0x1234#16),
   ([0b11111011#8], .ei),
   ([0b11111100#8], .invalidFC),
   ([0b11111101#8], .invalidFD),
   ([0b11111110#8, 0x5A#8], .cpAN 0x5A#8),
   ([0b11111111#8], .rst38H)] : List (List Byte × Instr)).all (fun r => reads r.1 r.2) = true := by
  decide

/-- The `encoding` column, 0xCB then 0x00 to 0x0F. -/
theorem test_decode_cb_row_0 : ([(0b00000000#8, .rlcB),
   (0b00000001#8, .rlcC),
   (0b00000010#8, .rlcD),
   (0b00000011#8, .rlcE),
   (0b00000100#8, .rlcH),
   (0b00000101#8, .rlcL),
   (0b00000110#8, .rlcAtHL),
   (0b00000111#8, .rlcA),
   (0b00001000#8, .rrcB),
   (0b00001001#8, .rrcC),
   (0b00001010#8, .rrcD),
   (0b00001011#8, .rrcE),
   (0b00001100#8, .rrcH),
   (0b00001101#8, .rrcL),
   (0b00001110#8, .rrcAtHL),
   (0b00001111#8, .rrcA)] : List (Byte × Instr)).all (fun r => reads [0xCB#8, r.1] r.2) = true := by
  decide

/-- The `encoding` column, 0xCB then 0x10 to 0x1F. -/
theorem test_decode_cb_row_1 : ([(0b00010000#8, .rlB),
   (0b00010001#8, .rlC),
   (0b00010010#8, .rlD),
   (0b00010011#8, .rlE),
   (0b00010100#8, .rlH),
   (0b00010101#8, .rlL),
   (0b00010110#8, .rlAtHL),
   (0b00010111#8, .rlA),
   (0b00011000#8, .rrB),
   (0b00011001#8, .rrC),
   (0b00011010#8, .rrD),
   (0b00011011#8, .rrE),
   (0b00011100#8, .rrH),
   (0b00011101#8, .rrL),
   (0b00011110#8, .rrAtHL),
   (0b00011111#8, .rrA)] : List (Byte × Instr)).all (fun r => reads [0xCB#8, r.1] r.2) = true := by
  decide

/-- The `encoding` column, 0xCB then 0x20 to 0x2F. -/
theorem test_decode_cb_row_2 : ([(0b00100000#8, .slaB),
   (0b00100001#8, .slaC),
   (0b00100010#8, .slaD),
   (0b00100011#8, .slaE),
   (0b00100100#8, .slaH),
   (0b00100101#8, .slaL),
   (0b00100110#8, .slaAtHL),
   (0b00100111#8, .slaA),
   (0b00101000#8, .sraB),
   (0b00101001#8, .sraC),
   (0b00101010#8, .sraD),
   (0b00101011#8, .sraE),
   (0b00101100#8, .sraH),
   (0b00101101#8, .sraL),
   (0b00101110#8, .sraAtHL),
   (0b00101111#8, .sraA)] : List (Byte × Instr)).all (fun r => reads [0xCB#8, r.1] r.2) = true := by
  decide

/-- The `encoding` column, 0xCB then 0x30 to 0x3F. -/
theorem test_decode_cb_row_3 : ([(0b00110000#8, .swapB),
   (0b00110001#8, .swapC),
   (0b00110010#8, .swapD),
   (0b00110011#8, .swapE),
   (0b00110100#8, .swapH),
   (0b00110101#8, .swapL),
   (0b00110110#8, .swapAtHL),
   (0b00110111#8, .swapA),
   (0b00111000#8, .srlB),
   (0b00111001#8, .srlC),
   (0b00111010#8, .srlD),
   (0b00111011#8, .srlE),
   (0b00111100#8, .srlH),
   (0b00111101#8, .srlL),
   (0b00111110#8, .srlAtHL),
   (0b00111111#8, .srlA)] : List (Byte × Instr)).all (fun r => reads [0xCB#8, r.1] r.2) = true := by
  decide

/-- The `encoding` column, 0xCB then 0x40 to 0x4F. -/
theorem test_decode_cb_row_4 : ([(0b01000000#8, .bit0B),
   (0b01000001#8, .bit0C),
   (0b01000010#8, .bit0D),
   (0b01000011#8, .bit0E),
   (0b01000100#8, .bit0H),
   (0b01000101#8, .bit0L),
   (0b01000110#8, .bit0AtHL),
   (0b01000111#8, .bit0A),
   (0b01001000#8, .bit1B),
   (0b01001001#8, .bit1C),
   (0b01001010#8, .bit1D),
   (0b01001011#8, .bit1E),
   (0b01001100#8, .bit1H),
   (0b01001101#8, .bit1L),
   (0b01001110#8, .bit1AtHL),
   (0b01001111#8, .bit1A)] : List (Byte × Instr)).all (fun r => reads [0xCB#8, r.1] r.2) = true := by
  decide

/-- The `encoding` column, 0xCB then 0x50 to 0x5F. -/
theorem test_decode_cb_row_5 : ([(0b01010000#8, .bit2B),
   (0b01010001#8, .bit2C),
   (0b01010010#8, .bit2D),
   (0b01010011#8, .bit2E),
   (0b01010100#8, .bit2H),
   (0b01010101#8, .bit2L),
   (0b01010110#8, .bit2AtHL),
   (0b01010111#8, .bit2A),
   (0b01011000#8, .bit3B),
   (0b01011001#8, .bit3C),
   (0b01011010#8, .bit3D),
   (0b01011011#8, .bit3E),
   (0b01011100#8, .bit3H),
   (0b01011101#8, .bit3L),
   (0b01011110#8, .bit3AtHL),
   (0b01011111#8, .bit3A)] : List (Byte × Instr)).all (fun r => reads [0xCB#8, r.1] r.2) = true := by
  decide

/-- The `encoding` column, 0xCB then 0x60 to 0x6F. -/
theorem test_decode_cb_row_6 : ([(0b01100000#8, .bit4B),
   (0b01100001#8, .bit4C),
   (0b01100010#8, .bit4D),
   (0b01100011#8, .bit4E),
   (0b01100100#8, .bit4H),
   (0b01100101#8, .bit4L),
   (0b01100110#8, .bit4AtHL),
   (0b01100111#8, .bit4A),
   (0b01101000#8, .bit5B),
   (0b01101001#8, .bit5C),
   (0b01101010#8, .bit5D),
   (0b01101011#8, .bit5E),
   (0b01101100#8, .bit5H),
   (0b01101101#8, .bit5L),
   (0b01101110#8, .bit5AtHL),
   (0b01101111#8, .bit5A)] : List (Byte × Instr)).all (fun r => reads [0xCB#8, r.1] r.2) = true := by
  decide

/-- The `encoding` column, 0xCB then 0x70 to 0x7F. -/
theorem test_decode_cb_row_7 : ([(0b01110000#8, .bit6B),
   (0b01110001#8, .bit6C),
   (0b01110010#8, .bit6D),
   (0b01110011#8, .bit6E),
   (0b01110100#8, .bit6H),
   (0b01110101#8, .bit6L),
   (0b01110110#8, .bit6AtHL),
   (0b01110111#8, .bit6A),
   (0b01111000#8, .bit7B),
   (0b01111001#8, .bit7C),
   (0b01111010#8, .bit7D),
   (0b01111011#8, .bit7E),
   (0b01111100#8, .bit7H),
   (0b01111101#8, .bit7L),
   (0b01111110#8, .bit7AtHL),
   (0b01111111#8, .bit7A)] : List (Byte × Instr)).all (fun r => reads [0xCB#8, r.1] r.2) = true := by
  decide

/-- The `encoding` column, 0xCB then 0x80 to 0x8F. -/
theorem test_decode_cb_row_8 : ([(0b10000000#8, .res0B),
   (0b10000001#8, .res0C),
   (0b10000010#8, .res0D),
   (0b10000011#8, .res0E),
   (0b10000100#8, .res0H),
   (0b10000101#8, .res0L),
   (0b10000110#8, .res0AtHL),
   (0b10000111#8, .res0A),
   (0b10001000#8, .res1B),
   (0b10001001#8, .res1C),
   (0b10001010#8, .res1D),
   (0b10001011#8, .res1E),
   (0b10001100#8, .res1H),
   (0b10001101#8, .res1L),
   (0b10001110#8, .res1AtHL),
   (0b10001111#8, .res1A)] : List (Byte × Instr)).all (fun r => reads [0xCB#8, r.1] r.2) = true := by
  decide

/-- The `encoding` column, 0xCB then 0x90 to 0x9F. -/
theorem test_decode_cb_row_9 : ([(0b10010000#8, .res2B),
   (0b10010001#8, .res2C),
   (0b10010010#8, .res2D),
   (0b10010011#8, .res2E),
   (0b10010100#8, .res2H),
   (0b10010101#8, .res2L),
   (0b10010110#8, .res2AtHL),
   (0b10010111#8, .res2A),
   (0b10011000#8, .res3B),
   (0b10011001#8, .res3C),
   (0b10011010#8, .res3D),
   (0b10011011#8, .res3E),
   (0b10011100#8, .res3H),
   (0b10011101#8, .res3L),
   (0b10011110#8, .res3AtHL),
   (0b10011111#8, .res3A)] : List (Byte × Instr)).all (fun r => reads [0xCB#8, r.1] r.2) = true := by
  decide

/-- The `encoding` column, 0xCB then 0xA0 to 0xAF. -/
theorem test_decode_cb_row_A : ([(0b10100000#8, .res4B),
   (0b10100001#8, .res4C),
   (0b10100010#8, .res4D),
   (0b10100011#8, .res4E),
   (0b10100100#8, .res4H),
   (0b10100101#8, .res4L),
   (0b10100110#8, .res4AtHL),
   (0b10100111#8, .res4A),
   (0b10101000#8, .res5B),
   (0b10101001#8, .res5C),
   (0b10101010#8, .res5D),
   (0b10101011#8, .res5E),
   (0b10101100#8, .res5H),
   (0b10101101#8, .res5L),
   (0b10101110#8, .res5AtHL),
   (0b10101111#8, .res5A)] : List (Byte × Instr)).all (fun r => reads [0xCB#8, r.1] r.2) = true := by
  decide

/-- The `encoding` column, 0xCB then 0xB0 to 0xBF. -/
theorem test_decode_cb_row_B : ([(0b10110000#8, .res6B),
   (0b10110001#8, .res6C),
   (0b10110010#8, .res6D),
   (0b10110011#8, .res6E),
   (0b10110100#8, .res6H),
   (0b10110101#8, .res6L),
   (0b10110110#8, .res6AtHL),
   (0b10110111#8, .res6A),
   (0b10111000#8, .res7B),
   (0b10111001#8, .res7C),
   (0b10111010#8, .res7D),
   (0b10111011#8, .res7E),
   (0b10111100#8, .res7H),
   (0b10111101#8, .res7L),
   (0b10111110#8, .res7AtHL),
   (0b10111111#8, .res7A)] : List (Byte × Instr)).all (fun r => reads [0xCB#8, r.1] r.2) = true := by
  decide

/-- The `encoding` column, 0xCB then 0xC0 to 0xCF. -/
theorem test_decode_cb_row_C : ([(0b11000000#8, .set0B),
   (0b11000001#8, .set0C),
   (0b11000010#8, .set0D),
   (0b11000011#8, .set0E),
   (0b11000100#8, .set0H),
   (0b11000101#8, .set0L),
   (0b11000110#8, .set0AtHL),
   (0b11000111#8, .set0A),
   (0b11001000#8, .set1B),
   (0b11001001#8, .set1C),
   (0b11001010#8, .set1D),
   (0b11001011#8, .set1E),
   (0b11001100#8, .set1H),
   (0b11001101#8, .set1L),
   (0b11001110#8, .set1AtHL),
   (0b11001111#8, .set1A)] : List (Byte × Instr)).all (fun r => reads [0xCB#8, r.1] r.2) = true := by
  decide

/-- The `encoding` column, 0xCB then 0xD0 to 0xDF. -/
theorem test_decode_cb_row_D : ([(0b11010000#8, .set2B),
   (0b11010001#8, .set2C),
   (0b11010010#8, .set2D),
   (0b11010011#8, .set2E),
   (0b11010100#8, .set2H),
   (0b11010101#8, .set2L),
   (0b11010110#8, .set2AtHL),
   (0b11010111#8, .set2A),
   (0b11011000#8, .set3B),
   (0b11011001#8, .set3C),
   (0b11011010#8, .set3D),
   (0b11011011#8, .set3E),
   (0b11011100#8, .set3H),
   (0b11011101#8, .set3L),
   (0b11011110#8, .set3AtHL),
   (0b11011111#8, .set3A)] : List (Byte × Instr)).all (fun r => reads [0xCB#8, r.1] r.2) = true := by
  decide

/-- The `encoding` column, 0xCB then 0xE0 to 0xEF. -/
theorem test_decode_cb_row_E : ([(0b11100000#8, .set4B),
   (0b11100001#8, .set4C),
   (0b11100010#8, .set4D),
   (0b11100011#8, .set4E),
   (0b11100100#8, .set4H),
   (0b11100101#8, .set4L),
   (0b11100110#8, .set4AtHL),
   (0b11100111#8, .set4A),
   (0b11101000#8, .set5B),
   (0b11101001#8, .set5C),
   (0b11101010#8, .set5D),
   (0b11101011#8, .set5E),
   (0b11101100#8, .set5H),
   (0b11101101#8, .set5L),
   (0b11101110#8, .set5AtHL),
   (0b11101111#8, .set5A)] : List (Byte × Instr)).all (fun r => reads [0xCB#8, r.1] r.2) = true := by
  decide

/-- The `encoding` column, 0xCB then 0xF0 to 0xFF. -/
theorem test_decode_cb_row_F : ([(0b11110000#8, .set6B),
   (0b11110001#8, .set6C),
   (0b11110010#8, .set6D),
   (0b11110011#8, .set6E),
   (0b11110100#8, .set6H),
   (0b11110101#8, .set6L),
   (0b11110110#8, .set6AtHL),
   (0b11110111#8, .set6A),
   (0b11111000#8, .set7B),
   (0b11111001#8, .set7C),
   (0b11111010#8, .set7D),
   (0b11111011#8, .set7E),
   (0b11111100#8, .set7H),
   (0b11111101#8, .set7L),
   (0b11111110#8, .set7AtHL),
   (0b11111111#8, .set7A)] : List (Byte × Instr)).all (fun r => reads [0xCB#8, r.1] r.2) = true := by
  decide

/-- A table word is read with its first byte in bits 7 to 0, and a CB row with the prefix in bits 15 to 8. -/
theorem test_decodeTableWord : decodeTableWord 8 0x41 = some .ldBC ∧ decodeTableWord 16 0x5A3E = some (.ldAN 0x5A#8) ∧
    decodeTableWord 24 0x123431 = some (.ldSPNn 0x1234#16) ∧ decodeTableWord 16 0xCB37 = some .swapA := by decide

/-- The word is put where the next step fetches, and runs. -/
theorem test_withFetchWord : steps (State.reset.withFetchWord 24 0x123431) (fun t => t.sp = 0x1234#16 ∧ t.pc = 0x0103#16) ∧
    steps (State.reset.withFetchWord 16 0xCB37) (fun t => t.a = 0x10#8 ∧ t.pc = 0x0102#16) := by decide

/-! ## One step of the worked examples (95_test_vectors.md) -/

/-- T1, R141. -/
theorem test_T1_LD_B_C :
    steps (code [0x41#8] ({ begin with c := 0x5A#8, f := 0xB0#8 }))
      (fun t => t.b = 0x5A#8 ∧ t.pc = 0xC001#16 ∧ t.instClocks = 3) := by decide

/-- T2, R143. -/
theorem test_T2_LD_A_HL :
    steps (code [0x7E#8] (placeByte 0xD000#16 0x99#8 ({ begin with h := 0xD0#8, l := 0x00#8, f := 0xB0#8 })))
      (fun t => t.a = 0x99#8 ∧ t.instClocks = 7) := by decide

/-- T3, R145. -/
theorem test_T3_LD_HL_n :
    steps (code [0x36#8, 0x42#8] ({ begin with h := 0xD0#8, l := 0x00#8, f := 0xB0#8 }))
      (fun t => t.pc = 0xC002#16 ∧ t.peek 0xD000#16 = 0x42#8 ∧ t.instClocks = 11) := by decide

/-- T4, R150. -/
theorem test_T4_LD_A_nn :
    steps (code [0xFA#8, 0x00#8, 0xD0#8] (placeByte 0xD000#16 0x7F#8 ({ begin with f := 0xB0#8 })))
      (fun t => t.a = 0x7F#8 ∧ t.pc = 0xC003#16 ∧ t.instClocks = 15) := by decide

/-- T5, R153. -/
theorem test_T5_LDH_n_A :
    steps (code [0xE0#8, 0x80#8] ({ begin with a := 0x12#8, f := 0xB0#8 }))
      (fun t => t.pc = 0xC002#16 ∧ t.peek 0xFF80#16 = 0x12#8 ∧ t.instClocks = 11) := by decide

/-- T6, R154. -/
theorem test_T6_LD_A_C :
    steps (code [0xF2#8] (placeByte 0xFF80#16 0x34#8 ({ begin with c := 0x80#8, f := 0xB0#8 })))
      (fun t => t.a = 0x34#8 ∧ t.instClocks = 7) := by decide

/-- T7, R156. -/
theorem test_T7_LD_HL_A_at_0xFFFF_writes_IE_HL_wraps :
    steps (code [0x22#8] ({ begin with h := 0xFF#8, l := 0xFF#8, a := 0x07#8, f := 0xB0#8 }))
      (fun t => t.hl = 0x0000#16 ∧ t.ie = 0x07#8 ∧ t.instClocks = 7) := by decide

/-- T8, R159. -/
theorem test_T8_LD_A_HL_wrap :
    steps (code [0x3A#8] (placeByte 0x0000#16 0x00#8 ({ begin with h := 0x00#8, l := 0x00#8, f := 0xB0#8 })))
      (fun t => t.a = 0x00#8 ∧ t.hl = 0xFFFF#16 ∧ t.instClocks = 7) := by decide

/-- T9, R161. -/
theorem test_T9_LD_nn_SP :
    steps (code [0x08#8, 0x00#8, 0xD0#8] ({ begin with sp := 0xABCD#16, f := 0xB0#8 }))
      (fun t => t.peek 0xD000#16 = 0xCD#8 ∧ t.peek 0xD001#16 = 0xAB#8 ∧ t.instClocks = 19) := by decide

/-- T10, R162. -/
theorem test_T10_LD_SP_HL :
    steps (code [0xF9#8] ({ begin with h := 0x12#8, l := 0x34#8, f := 0xB0#8 }))
      (fun t => t.sp = 0x1234#16 ∧ t.instClocks = 7) := by decide

/-- T11, R163. -/
theorem test_T11_LD_HL_SP_1_SP_0x00FF :
    steps (code [0xF8#8, 0x01#8] ({ begin with sp := 0x00FF#16, f := 0xB0#8 }))
      (fun t => t.hl = 0x0100#16 ∧ t.f = 0x30#8 ∧ t.sp = 0x00FF#16 ∧ t.instClocks = 11) := by decide

/-- T12, R163. -/
theorem test_T12_LD_HL_SP_1_SP_0x0001 :
    steps (code [0xF8#8, 0xFF#8] ({ begin with sp := 0x0001#16, f := 0xB0#8 }))
      (fun t => t.hl = 0x0000#16 ∧ t.f = 0x30#8 ∧ t.instClocks = 11) := by decide

/-- T14, R164. -/
theorem test_T14_PUSH_BC :
    steps (code [0xC5#8] ({ begin with sp := 0xE000#16, b := 0x12#8, c := 0x34#8, f := 0xB0#8 }))
      (fun t => t.sp = 0xDFFE#16 ∧ t.peek 0xDFFE#16 = 0x34#8 ∧ t.peek 0xDFFF#16 = 0x12#8 ∧ t.instClocks = 15) := by decide

/-- T15, R166. -/
theorem test_T15_POP_AF_low_nibble :
    steps (code [0xF1#8] (placeByte 0xD001#16 0x12#8 (placeByte 0xD000#16 0xFF#8 ({ begin with sp := 0xD000#16, f := 0xB0#8 }))))
      (fun t => t.a = 0x12#8 ∧ t.f = 0xF0#8 ∧ t.sp = 0xD002#16 ∧ t.instClocks = 11) := by decide

/-- T16, R182. -/
theorem test_T16_ADD_A_B_0x3A_0xC6 :
    steps (code [0x80#8] ({ begin with a := 0x3A#8, b := 0xC6#8, f := 0xB0#8 }))
      (fun t => t.a = 0x00#8 ∧ t.f = 0xB0#8 ∧ t.instClocks = 3) := by decide

/-- T17, R182. -/
theorem test_T17_ADD_A_n_0xFF_0x01 :
    steps (code [0xC6#8, 0x01#8] ({ begin with a := 0xFF#8, f := 0xB0#8 }))
      (fun t => t.a = 0x00#8 ∧ t.f = 0xB0#8 ∧ t.instClocks = 7) := by decide

/-- T18, R183. -/
theorem test_T18_ADC_A_E_C_1 :
    steps (code [0x8B#8] ({ begin with a := 0xE1#8, e := 0x0F#8, f := 0x10#8 }))
      (fun t => t.a = 0xF1#8 ∧ t.f = 0x20#8 ∧ t.instClocks = 3) := by decide

/-- T19, R183. -/
theorem test_T19_ADC_A_n_0xFF_0_1 :
    steps (code [0xCE#8, 0x00#8] ({ begin with a := 0xFF#8, f := 0x10#8 }))
      (fun t => t.a = 0x00#8 ∧ t.f = 0xB0#8 ∧ t.instClocks = 7) := by decide

/-- T20, R184. -/
theorem test_T20_SUB_A_E :
    steps (code [0x93#8] ({ begin with a := 0x3E#8, e := 0x0F#8, f := 0xB0#8 }))
      (fun t => t.a = 0x2F#8 ∧ t.f = 0x60#8 ∧ t.instClocks = 3) := by decide

/-- T21, R184. -/
theorem test_T21_SUB_A_A :
    steps (code [0x97#8] ({ begin with a := 0x77#8, f := 0xB0#8 }))
      (fun t => t.a = 0x00#8 ∧ t.f = 0xC0#8 ∧ t.instClocks = 3) := by decide

/-- T22, R185. -/
theorem test_T22_SBC_A_H_C_1 :
    steps (code [0x9C#8] ({ begin with a := 0x3B#8, h := 0x2A#8, f := 0x10#8 }))
      (fun t => t.a = 0x10#8 ∧ t.f = 0x40#8 ∧ t.instClocks = 3) := by decide

/-- T23, R185. -/
theorem test_T23_SBC_A_n_0x00_0xFF_1 :
    steps (code [0xDE#8, 0xFF#8] ({ begin with a := 0x00#8, f := 0x10#8 }))
      (fun t => t.a = 0x00#8 ∧ t.f = 0xF0#8 ∧ t.instClocks = 7) := by decide

/-- T24, R186. -/
theorem test_T24_AND_A_n :
    steps (code [0xE6#8, 0x0F#8] ({ begin with a := 0x5A#8, f := 0x10#8 }))
      (fun t => t.a = 0x0A#8 ∧ t.f = 0x20#8 ∧ t.instClocks = 7) := by decide

/-- T25, R187. -/
theorem test_T25_XOR_A_A :
    steps (code [0xAF#8] ({ begin with a := 0x5A#8, f := 0x70#8 }))
      (fun t => t.a = 0x00#8 ∧ t.f = 0x80#8 ∧ t.instClocks = 3) := by decide

/-- T26, R188. -/
theorem test_T26_OR_A_HL :
    steps (code [0xB6#8] (placeByte 0xD000#16 0x00#8 ({ begin with a := 0x00#8, h := 0xD0#8, l := 0x00#8, f := 0xB0#8 })))
      (fun t => t.a = 0x00#8 ∧ t.f = 0x80#8 ∧ t.instClocks = 7) := by decide

/-- T27, R189. -/
theorem test_T27_CP_A_n_equal :
    steps (code [0xFE#8, 0x3C#8] ({ begin with a := 0x3C#8, f := 0xB0#8 }))
      (fun t => t.a = 0x3C#8 ∧ t.f = 0xC0#8 ∧ t.instClocks = 7) := by decide

/-- T28, R189. -/
theorem test_T28_CP_A_n_below :
    steps (code [0xFE#8, 0x40#8] ({ begin with a := 0x3C#8, f := 0xB0#8 }))
      (fun t => t.a = 0x3C#8 ∧ t.f = 0x50#8 ∧ t.instClocks = 7) := by decide

/-- T29, R190. -/
theorem test_T29_INC_A_0xFF_SRC :
    steps (code [0x3C#8] ({ begin with a := 0xFF#8, f := 0x10#8 }))
      (fun t => t.a = 0x00#8 ∧ t.f = 0xB0#8 ∧ t.instClocks = 3) := by decide

/-- T30, R190. -/
theorem test_T30_INC_B_0x0F :
    steps (code [0x04#8] ({ begin with b := 0x0F#8, f := 0xB0#8 }))
      (fun t => t.b = 0x10#8 ∧ t.f = 0x30#8 ∧ t.instClocks = 3) := by decide

/-- T31, R192. -/
theorem test_T31_DEC_C_0x01 :
    steps (code [0x0D#8] ({ begin with c := 0x01#8, f := 0xB0#8 }))
      (fun t => t.c = 0x00#8 ∧ t.f = 0xD0#8 ∧ t.instClocks = 3) := by decide

/-- T32, R192. -/
theorem test_T32_DEC_D_0x00 :
    steps (code [0x15#8] ({ begin with d := 0x00#8, f := 0x10#8 }))
      (fun t => t.d = 0xFF#8 ∧ t.f = 0x70#8 ∧ t.instClocks = 3) := by decide

/-- T33, R191. -/
theorem test_T33_INC_HL_0xFF :
    steps (code [0x34#8] (placeByte 0xD000#16 0xFF#8 ({ begin with h := 0xD0#8, l := 0x00#8, f := 0xB0#8 })))
      (fun t => t.f = 0xB0#8 ∧ t.peek 0xD000#16 = 0x00#8 ∧ t.instClocks = 11) := by decide

/-- T34, R193. -/
theorem test_T34_DEC_HL_0x10 :
    steps (code [0x35#8] (placeByte 0xD000#16 0x10#8 ({ begin with h := 0xD0#8, l := 0x00#8, f := 0xB0#8 })))
      (fun t => t.f = 0x70#8 ∧ t.peek 0xD000#16 = 0x0F#8 ∧ t.instClocks = 11) := by decide

/-- T35, R194. -/
theorem test_T35_DAA_after_0x15_0x27 :
    steps (code [0x27#8] ({ begin with a := 0x3C#8, f := 0x00#8 }))
      (fun t => t.a = 0x42#8 ∧ t.f = 0x00#8 ∧ t.instClocks = 3) := by decide

/-- T36, R194. -/
theorem test_T36_DAA_after_0x99_0x01 :
    steps (code [0x27#8] ({ begin with a := 0x9A#8, f := 0x00#8 }))
      (fun t => t.a = 0x00#8 ∧ t.f = 0x90#8 ∧ t.instClocks = 3) := by decide

/-- T40, R195. -/
theorem test_T40_CPL :
    steps (code [0x2F#8] ({ begin with a := 0x35#8, f := 0xB0#8 }))
      (fun t => t.a = 0xCA#8 ∧ t.f = 0xF0#8 ∧ t.instClocks = 3) := by decide

/-- T41, R196. -/
theorem test_T41_SCF :
    steps (code [0x37#8] ({ begin with f := 0xE0#8 }))
      (fun t => t.f = 0x90#8 ∧ t.instClocks = 3) := by decide

/-- T42, R197. -/
theorem test_T42_CCF_C_1 :
    steps (code [0x3F#8] ({ begin with f := 0xF0#8 }))
      (fun t => t.f = 0x80#8 ∧ t.instClocks = 3) := by decide

/-- T43, R210. -/
theorem test_T43_ADD_HL_BC :
    steps (code [0x09#8] ({ begin with h := 0x8A#8, l := 0x23#8, b := 0x06#8, c := 0x05#8, f := 0xB0#8 }))
      (fun t => t.hl = 0x9028#16 ∧ t.f = 0xA0#8 ∧ t.instClocks = 7) := by decide

/-- T44, R210. -/
theorem test_T44_ADD_HL_HL :
    steps (code [0x29#8] ({ begin with h := 0x8A#8, l := 0x23#8, f := 0xB0#8 }))
      (fun t => t.hl = 0x1446#16 ∧ t.f = 0xB0#8 ∧ t.instClocks = 7) := by decide

/-- T45, R210. -/
theorem test_T45_ADD_HL_SP_0xFFFF_1_Z_kept_0 :
    steps (code [0x39#8] ({ begin with h := 0xFF#8, l := 0xFF#8, sp := 0x0001#16, f := 0x00#8 }))
      (fun t => t.hl = 0x0000#16 ∧ t.f = 0x30#8 ∧ t.instClocks = 7) := by decide

/-- T46, R211. -/
theorem test_T46_INC_SP_wrap :
    steps (code [0x33#8] ({ begin with sp := 0xFFFF#16, f := 0x00#8 }))
      (fun t => t.sp = 0x0000#16 ∧ t.f = 0x00#8 ∧ t.instClocks = 7) := by decide

/-- T47, R212. -/
theorem test_T47_DEC_BC_wrap :
    steps (code [0x0B#8] ({ begin with b := 0x00#8, c := 0x00#8, f := 0x00#8 }))
      (fun t => t.bc = 0xFFFF#16 ∧ t.f = 0x00#8 ∧ t.instClocks = 7) := by decide

/-- T48, R213. -/
theorem test_T48_ADD_SP_1_SP_0x0001 :
    steps (code [0xE8#8, 0xFF#8] ({ begin with sp := 0x0001#16, f := 0xB0#8 }))
      (fun t => t.sp = 0x0000#16 ∧ t.f = 0x30#8 ∧ t.instClocks = 15) := by decide

/-- T49, R213. -/
theorem test_T49_ADD_SP_1_SP_0x0000 :
    steps (code [0xE8#8, 0xFF#8] ({ begin with sp := 0x0000#16, f := 0xB0#8 }))
      (fun t => t.sp = 0xFFFF#16 ∧ t.f = 0x00#8 ∧ t.instClocks = 15) := by decide

/-- T51, R220. -/
theorem test_T51_RLCA :
    steps (code [0x07#8] ({ begin with a := 0x85#8, f := 0xB0#8 }))
      (fun t => t.a = 0x0B#8 ∧ t.f = 0x10#8 ∧ t.instClocks = 3) := by decide

/-- T52, R220. -/
theorem test_T52_RLCA_A_0_Z_stays_0 :
    steps (code [0x07#8] ({ begin with a := 0x00#8, f := 0x80#8 }))
      (fun t => t.a = 0x00#8 ∧ t.f = 0x00#8 ∧ t.instClocks = 3) := by decide

/-- T53, R221. -/
theorem test_T53_RRCA :
    steps (code [0x0F#8] ({ begin with a := 0x3B#8, f := 0xB0#8 }))
      (fun t => t.a = 0x9D#8 ∧ t.f = 0x10#8 ∧ t.instClocks = 3) := by decide

/-- T54, R222. -/
theorem test_T54_RLA :
    steps (code [0x17#8] ({ begin with a := 0x95#8, f := 0x10#8 }))
      (fun t => t.a = 0x2B#8 ∧ t.f = 0x10#8 ∧ t.instClocks = 3) := by decide

/-- T55, R223. -/
theorem test_T55_RRA :
    steps (code [0x1F#8] ({ begin with a := 0x81#8, f := 0x00#8 }))
      (fun t => t.a = 0x40#8 ∧ t.f = 0x10#8 ∧ t.instClocks = 3) := by decide

/-- T56, R225. -/
theorem test_T56_RLC_B :
    steps (code [0xCB#8, 0x00#8] ({ begin with b := 0x85#8, f := 0xB0#8 }))
      (fun t => t.b = 0x0B#8 ∧ t.f = 0x10#8 ∧ t.pc = 0xC002#16 ∧ t.instClocks = 7) := by decide

/-- T57, R226. -/
theorem test_T57_RRC_C :
    steps (code [0xCB#8, 0x09#8] ({ begin with c := 0x01#8, f := 0xB0#8 }))
      (fun t => t.c = 0x80#8 ∧ t.f = 0x10#8 ∧ t.instClocks = 7) := by decide

/-- T58, R227. -/
theorem test_T58_RL_D :
    steps (code [0xCB#8, 0x12#8] ({ begin with d := 0x80#8, f := 0x00#8 }))
      (fun t => t.d = 0x00#8 ∧ t.f = 0x90#8 ∧ t.instClocks = 7) := by decide

/-- T59, R228. -/
theorem test_T59_RR_E :
    steps (code [0xCB#8, 0x1B#8] ({ begin with e := 0x01#8, f := 0x00#8 }))
      (fun t => t.e = 0x00#8 ∧ t.f = 0x90#8 ∧ t.instClocks = 7) := by decide

/-- T60, R229. -/
theorem test_T60_SLA_H :
    steps (code [0xCB#8, 0x24#8] ({ begin with h := 0x80#8, f := 0xB0#8 }))
      (fun t => t.h = 0x00#8 ∧ t.f = 0x90#8 ∧ t.instClocks = 7) := by decide

/-- T61, R230. -/
theorem test_T61_SRA_L :
    steps (code [0xCB#8, 0x2D#8] ({ begin with l := 0x8A#8, f := 0xB0#8 }))
      (fun t => t.l = 0xC5#8 ∧ t.f = 0x00#8 ∧ t.instClocks = 7) := by decide

/-- T62, R231. -/
theorem test_T62_SWAP_A :
    steps (code [0xCB#8, 0x37#8] ({ begin with a := 0xF0#8, f := 0x10#8 }))
      (fun t => t.a = 0x0F#8 ∧ t.f = 0x00#8 ∧ t.instClocks = 7) := by decide

/-- T63, R232. -/
theorem test_T63_SRL_HL :
    steps (code [0xCB#8, 0x3E#8] (placeByte 0xD000#16 0x01#8 ({ begin with h := 0xD0#8, l := 0x00#8, f := 0xB0#8 })))
      (fun t => t.f = 0x90#8 ∧ t.peek 0xD000#16 = 0x00#8 ∧ t.instClocks = 15) := by decide

/-- T64, R233. -/
theorem test_T64_BIT_7_A :
    steps (code [0xCB#8, 0x7F#8] ({ begin with a := 0x80#8, f := 0x10#8 }))
      (fun t => t.f = 0x30#8 ∧ t.instClocks = 7) := by decide

/-- T65, R233. -/
theorem test_T65_BIT_0_HL :
    steps (code [0xCB#8, 0x46#8] (placeByte 0xD000#16 0xFE#8 ({ begin with h := 0xD0#8, l := 0x00#8, f := 0x00#8 })))
      (fun t => t.f = 0xA0#8 ∧ t.instClocks = 11) := by decide

/-- T66, R234. -/
theorem test_T66_RES_0_B :
    steps (code [0xCB#8, 0x80#8] ({ begin with b := 0xFF#8, f := 0xF0#8 }))
      (fun t => t.b = 0xFE#8 ∧ t.f = 0xF0#8 ∧ t.instClocks = 7) := by decide

/-- T67, R235. -/
theorem test_T67_SET_0_HL :
    steps (code [0xCB#8, 0xC6#8] (placeByte 0xD000#16 0x80#8 ({ begin with h := 0xD0#8, l := 0x00#8, f := 0xB0#8 })))
      (fun t => t.peek 0xD000#16 = 0x81#8 ∧ t.instClocks = 15) := by decide

/-- T68, R241. -/
theorem test_T68_JP_nn :
    steps (code [0xC3#8, 0x50#8, 0x01#8] ({ begin with f := 0xB0#8 }))
      (fun t => t.pc = 0x0150#16 ∧ t.instClocks = 15) := by decide

/-- T69, R242. -/
theorem test_T69_JP_Z_nn_taken :
    steps (code [0xCA#8, 0x00#8, 0x03#8] ({ begin with f := 0x80#8 }))
      (fun t => t.pc = 0x0300#16 ∧ t.instClocks = 15) := by decide

/-- T70, R242. -/
theorem test_T70_JP_Z_nn_not_taken :
    steps (code [0xCA#8, 0x00#8, 0x03#8] ({ begin with f := 0x00#8 }))
      (fun t => t.pc = 0xC003#16 ∧ t.instClocks = 11) := by decide

/-- T71, R243. -/
theorem test_T71_JP_HL :
    steps (code [0xE9#8] ({ begin with h := 0x40#8, l := 0x00#8, f := 0xB0#8 }))
      (fun t => t.pc = 0x4000#16 ∧ t.instClocks = 3) := by decide

/-- T72, R244. -/
theorem test_T72_JR_e_5 :
    steps (code [0x18#8, 0x05#8] ({ begin with f := 0xB0#8 }))
      (fun t => t.pc = 0xC007#16 ∧ t.instClocks = 11) := by decide

/-- T73, R244. -/
theorem test_T73_JR_e_2_self :
    steps (code [0x18#8, 0xFE#8] ({ begin with f := 0xB0#8 }))
      (fun t => t.pc = 0xC000#16 ∧ t.instClocks = 11) := by decide

/-- T74, R245. -/
theorem test_T74_JR_NZ_e_taken_5 :
    steps (code [0x20#8, 0xFB#8] ({ begin with f := 0x00#8 }))
      (fun t => t.pc = 0xBFFD#16 ∧ t.instClocks = 11) := by decide

/-- T75, R245. -/
theorem test_T75_JR_C_e_not_taken :
    steps (code [0x38#8, 0x10#8] ({ begin with f := 0x00#8 }))
      (fun t => t.pc = 0xC002#16 ∧ t.instClocks = 7) := by decide

/-- T77, R246. -/
theorem test_T77_CALL_nn_SRC_at_0x0100 :
    steps (code [0xCD#8, 0x34#8, 0x12#8] ({ begin with sp := 0xFFFE#16, f := 0xB0#8, pc := 0x0100#16 }))
      (fun t => t.pc = 0x1234#16 ∧ t.sp = 0xFFFC#16 ∧ t.peek 0xFFFC#16 = 0x03#8 ∧ t.peek 0xFFFD#16 = 0x01#8 ∧ t.instClocks = 23) := by decide

/-- T78, R247. -/
theorem test_T78_CALL_C_nn_not_taken :
    steps (code [0xDC#8, 0x34#8, 0x12#8] ({ begin with sp := 0xFFFE#16, f := 0x00#8 }))
      (fun t => t.pc = 0xC003#16 ∧ t.sp = 0xFFFE#16 ∧ t.instClocks = 11) := by decide

/-- T79, R248. -/
theorem test_T79_RET :
    steps (code [0xC9#8] (placeByte 0xD001#16 0x01#8 (placeByte 0xD000#16 0x03#8 ({ begin with sp := 0xD000#16, f := 0xB0#8 }))))
      (fun t => t.pc = 0x0103#16 ∧ t.sp = 0xD002#16 ∧ t.instClocks = 15) := by decide

/-- T80, R249. -/
theorem test_T80_RET_Z_taken :
    steps (code [0xC8#8] (placeByte 0xD001#16 0x01#8 (placeByte 0xD000#16 0x03#8 ({ begin with sp := 0xD000#16, f := 0x80#8 }))))
      (fun t => t.pc = 0x0103#16 ∧ t.sp = 0xD002#16 ∧ t.instClocks = 19) := by decide

/-- T81, R249. -/
theorem test_T81_RET_Z_not_taken :
    steps (code [0xC8#8] ({ begin with sp := 0xD000#16, f := 0x00#8 }))
      (fun t => t.pc = 0xC001#16 ∧ t.sp = 0xD000#16 ∧ t.instClocks = 7) := by decide

/-- T82, R250. -/
theorem test_T82_RETI :
    steps (code [0xD9#8] (placeByte 0xD001#16 0x01#8 (placeByte 0xD000#16 0x50#8 ({ begin with sp := 0xD000#16, f := 0xB0#8 }))))
      (fun t => t.pc = 0x0150#16 ∧ t.sp = 0xD002#16 ∧ t.ime = true ∧ t.instClocks = 15) := by decide

/-- T83, R251. -/
theorem test_T83_RST_28H :
    steps (code [0xEF#8] ({ begin with sp := 0xFFFE#16, f := 0xB0#8, pc := 0x0200#16 }))
      (fun t => t.pc = 0x0028#16 ∧ t.sp = 0xFFFC#16 ∧ t.peek 0xFFFC#16 = 0x01#8 ∧ t.peek 0xFFFD#16 = 0x02#8 ∧ t.instClocks = 15) := by decide

/-- T84, R260. -/
theorem test_T84_NOP :
    steps (code [0x00#8] ({ begin with f := 0xB0#8 }))
      (fun t => t.pc = 0xC001#16 ∧ t.instClocks = 3) := by decide

/-- T85, R261. -/
theorem test_T85_HALT_nothing_pending :
    steps (code [0x76#8] ({ begin with f := 0xB0#8 }))
      (fun t => t.pc = 0xC001#16 ∧ t.isHalted = true ∧ t.haltBug = false ∧ t.instClocks = 3) := by decide

/-- T86, R261. -/
theorem test_T86_HALT_IME_0_pending :
    steps (code [0x76#8] ({ begin with ie := 0x01#8, ifr := 0x01#5, f := 0xB0#8 }))
      (fun t => t.pc = 0xC001#16 ∧ t.isHalted = false ∧ t.haltBug = true ∧ t.instClocks = 3) := by decide

/-- T87, R262. -/
theorem test_T87_STOP_as_halt :
    steps (code [0x10#8, 0x00#8] ({ begin with f := 0xB0#8 }))
      (fun t => t.pc = 0xC002#16 ∧ t.isHalted = true ∧ t.instClocks = 3) := by decide

/-- T88, R263. -/
theorem test_T88_DI :
    steps (code [0xF3#8] ({ begin with ime := true, f := 0xB0#8 }))
      (fun t => t.ime = false ∧ t.instClocks = 3) := by decide

/-- T89, R264. -/
theorem test_T89_EI :
    steps (code [0xFB#8] ({ begin with f := 0xB0#8 }))
      (fun t => t.ime = false ∧ t.instClocks = 3) := by decide

/-- T90, R265. -/
theorem test_T90_invalid_0xD3 :
    steps (code [0xD3#8] ({ begin with f := 0xB0#8 }))
      (fun t => t.pc = 0xC001#16 ∧ t.fault = some (.invalidOpcode 0xD3#8 0xC000#16) ∧ t.instClocks = 0) := by decide

/-! ## Witnesses: for each statement with hypotheses, a state and operands that meet them together -/

/-- Plain memory under SP, nothing scripted, a carry set. -/
def plain : State := { begin with sp := 0xD000#16, h := 0xD0#8, l := 0x10#8, f := 0x10#8 }

/-- An instruction in flight with its longest count. -/
def flying : State := { begin with instClocks := 24 }

/-- At a boundary with IME set and every source pending. -/
def due : State := { begin with ime := true, ie := 0x1F#8, ifr := 0b11111#5 }

/-- Halted at a boundary. -/
def asleep : State := { begin with isHalted := true, ifr := 0b00000#5 }

theorem test_witness_DecodeOfEncode : Instr.WellFormed (.ldSPNn 0xFFFF#16) := by decide

theorem test_witness_EncodeOfDecode : decode [0x31#8, 0xFF#8, 0xFF#8, 0x00#8] = .ok (.ldSPNn 0xFFFF#16, [0x00#8]) := by rfl

theorem test_witness_LengthFromFirstByte_short :
    ([] : List Byte).length + 1 < formatLength 0x06#8 ∧ [0x12#8].length + 1 < formatLength 0x01#8 ∧
      ([] : List Byte).length + 1 < formatLength 0xCB#8 := by decide

theorem test_witness_LengthFromFirstByte_enough :
    formatLength 0x00#8 ≤ ([] : List Byte).length + 1 ∧ formatLength 0x06#8 ≤ [0x12#8].length + 1 ∧
      formatLength 0x01#8 ≤ [0x34#8, 0x12#8].length + 1 := by decide

theorem test_witness_PairsAndHalves : Pair.hl ≠ Pair.sp ∧ Reg8.a ≠ Reg8.l := by decide

/-- The external addresses next to each in-block register. -/
theorem test_witness_MemByAddress :
    ∀ addr ∈ [0x0000#16, 0xFF03#16, 0xFF08#16, 0xFF0E#16, 0xFF10#16, 0xFFFE#16],
      addr ∉ [0xFF04#16, 0xFF05#16, 0xFF06#16, 0xFF07#16, 0xFF0F#16, 0xFFFF#16] := by simp

theorem test_witness_ReadAfterWrite :
    plain.mem.wf = true ∧ plain.busAnswers = [] ∧ (0xFFFF#16 : Word) ≠ 0x0000#16 := by decide

theorem test_witness_ExternalReadIsTheOracle :
    (0xFFFE#16 : Word) ∉ [0xFF04#16, 0xFF05#16, 0xFF06#16, 0xFF07#16, 0xFF0F#16, 0xFFFF#16] ∧
      ({ plain with busAnswers := [0x99#8] } : State).busAnswers = [0x99#8] := by decide

/-- A push at the bottom of the address space stores to 0xFFFF and 0xFFFE and nowhere else. -/
theorem test_witness_MemoryFrame :
    exec .pushBC { plain with sp := 0x0000#16 } = .next (charged 16 (push16 plain.bc { plain with sp := 0x0000#16 })) ∧
      (0x0000#16 : Word) ∉ storedAddresses .pushBC { plain with sp := 0x0000#16 } := ⟨rfl, by decide⟩

theorem nop_writes_nothing (r : Reg8) : ¬Writes .nop r := by
  intro h
  generalize hi : Instr.nop = i at h
  cases h
  all_goals first
    | cases hi
    | (unfold Instr.ldRegReg at hi; split at hi <;> cases hi)
    | (unfold Instr.ldRegImm at hi; split at hi <;> cases hi)
    | (unfold Instr.ldRegAtHL at hi; split at hi <;> cases hi)
    | (unfold Instr.ldPairImm at hi; split at hi <;> cases hi)
    | (unfold Instr.pop at hi; split at hi <;> cases hi)
    | (unfold Instr.aluReg at hi; split at hi <;> cases hi)
    | (unfold Instr.aluImm at hi; split at hi <;> cases hi)
    | (unfold Instr.incReg at hi; split at hi <;> cases hi)
    | (unfold Instr.decReg at hi; split at hi <;> cases hi)
    | (unfold Instr.addHLPair at hi; split at hi <;> cases hi)
    | (unfold Instr.incPair at hi; split at hi <;> cases hi)
    | (unfold Instr.decPair at hi; split at hi <;> cases hi)
    | (unfold Instr.rotate at hi; split at hi <;> cases hi)
    | (unfold Instr.res at hi; split at hi <;> cases hi)
    | (unfold Instr.set at hi; split at hi <;> cases hi)

theorem nop_writes_no_sp : ¬WritesSP .nop := by
  intro h
  generalize hi : Instr.nop = i at h
  cases h
  all_goals first
    | cases hi
    | (unfold Instr.push at hi; split at hi <;> cases hi)
    | (unfold Instr.pop at hi; split at hi <;> cases hi)
    | (unfold Instr.callCond at hi; split at hi <;> cases hi)
    | (unfold Instr.retCond at hi; split at hi <;> cases hi)
    | (unfold Instr.rst at hi; split at hi <;> cases hi)

theorem nop_writes_no_flag : ¬WritesFlags .nop := by
  intro h
  generalize hi : Instr.nop = i at h
  cases h
  all_goals first
    | cases hi
    | (unfold Instr.aluReg at hi; split at hi <;> cases hi)
    | (unfold Instr.aluImm at hi; split at hi <;> cases hi)
    | (unfold Instr.incReg at hi; split at hi <;> cases hi)
    | (unfold Instr.decReg at hi; split at hi <;> cases hi)
    | (unfold Instr.addHLPair at hi; split at hi <;> cases hi)
    | (unfold Instr.rotate at hi; split at hi <;> cases hi)
    | (unfold Instr.bit at hi; split at hi <;> cases hi)

theorem test_witness_RegisterFrame :
    exec .nop plain = .next (charged 4 plain) ∧ (∀ r, ¬Writes .nop r) ∧ ¬WritesSP .nop :=
  ⟨rfl, nop_writes_nothing, nop_writes_no_sp⟩

theorem test_witness_FlagFrame : exec .nop plain = .next (charged 4 plain) ∧ ¬WritesFlags .nop := ⟨rfl, nop_writes_no_flag⟩

/-- NOP meets the premise of every clause. -/
theorem test_witness_ExecutionStateFrame :
    exec .nop plain = .next (charged 4 plain) ∧ Instr.nop ≠ .di ∧ Instr.nop ≠ .reti ∧ Instr.nop ≠ .ei ∧ Instr.nop ≠ .halt ∧
      (∀ n, Instr.nop ≠ .stop n) ∧ (∀ b, (b, Instr.nop) ∉ invalidBytes) ∧ storedAddresses .nop plain = [] :=
  ⟨rfl, nofun, nofun, nofun, nofun, nofun, fun b => by simp [invalidBytes], rfl⟩

/-- Both forms that raise a fault, and STOP under both modes. -/
theorem test_witness_EveryInstructionAnswersNext_raises :
    RaisesFault .invalidD3 plain ∧ RaisesFault (.stop 0x00#8) { begin with cfg := { begin.cfg with stopMode := .refuse } } :=
  ⟨.inl ⟨0xD3#8, by decide⟩, .inr ⟨⟨_, rfl⟩, rfl⟩⟩

theorem test_witness_EveryInstructionAnswersNext_completes : ¬RaisesFault .nop plain ∧ ¬RaisesFault (.stop 0x00#8) begin := by
  refine ⟨fun h => ?_, fun h => ?_⟩ <;> rcases h with ⟨b, h⟩ | ⟨⟨n, h⟩, hm⟩
  · simp [invalidBytes] at h
  · cases h
  · simp [invalidBytes] at h
  · exact absurd hm (by decide)

/-- SP at 0x0002 puts the pushed bytes at the bottom of the address space. -/
theorem test_witness_PopAfterPushRestores :
    let s := { plain with sp := 0x0002#16 }
    let t := charged 16 (push16 s.af s)
    s.mem.wf = true ∧ s.busAnswers = [] ∧ ioRegAt (s.sp - 1#16) = none ∧ ioRegAt (s.sp - 2#16) = none ∧
      exec (.push .af) s = .next t ∧ exec (.pop .bc) t = .next (charged 12 ((pop16 t).2.setBC (pop16 t).1)) :=
  ⟨by decide, rfl, by decide, by decide, rfl, rfl⟩

theorem test_witness_ReturnAfterCall :
    let t := charged 24 (call 0x1234#16 plain)
    plain.mem.wf = true ∧ plain.busAnswers = [] ∧ ioRegAt (plain.sp - 1#16) = none ∧
      ioRegAt (plain.sp - 2#16) = none ∧ exec (.callNn 0x1234#16) plain = .next t ∧
      exec .ret t = .next (charged 16 (popPC t)) := ⟨by decide, rfl, by decide, by decide, rfl, rfl⟩

/-- The operand (HL) keeps its value through both pairs of operations. -/
theorem test_witness_AddSubtractRoundTrip :
    runs (aluInstr .add .atHL) plain (fun t => t.a = t.a ∧ operandValue t .atHL = operandValue plain .atHL ∧
        runs (aluInstr .sub .atHL) t fun _ => true) ∧
      runs (aluInstr .adc .atHL) plain (fun v => v.a = v.a ∧ operandValue v .atHL = operandValue plain .atHL ∧
        runs (aluInstr .sbc .atHL) v fun _ => true) := by decide

theorem test_witness_DecimalAdjustGivesDecimalDigits :
    ((0 < 100 ∧ 99 < 100 ∧ ({ plain with a := 0x00#8 } : State).a = bcd 0) ∧
      (99 < 100 ∧ 0 < 100 ∧ ({ plain with a := 0x99#8 } : State).a = bcd 99)) := by decide

theorem test_witness_StopByMode :
    begin.cfg.stopMode = .asHalt ∧ ({ begin with cfg := { begin.cfg with stopMode := .refuse } } : State).cfg.stopMode = .refuse := by
  decide

/-- STOP at the end of the address space under `refuse`, with and without the HALT bug. -/
theorem test_witness_StopByMode_step :
    ∀ bug, let s := { code [0x10#8, 0x00#8] { begin with pc := 0xFFFE#16 } with
        cfg := { begin.cfg with stopMode := .refuse }, haltBug := bug }
      FetchesNow s ∧ s.cfg.stopMode = .refuse ∧ (memRead (boundaryState s).pc (boundaryState s)).1 = 0x10#8 := by
  intro bug
  cases bug <;> exact ⟨⟨rfl, rfl, rfl, by decide⟩, rfl, rfl⟩

theorem test_witness_InvalidOpcodesRecordTheFault :
    (0xD3#8, Instr.invalidD3) ∈ invalidBytes ∧ (0xFD#8, Instr.invalidFD) ∈ invalidBytes := by decide

/-- An invalid byte at PC, an EI armed. -/
theorem test_witness_InvalidOpcodesRecordTheFault_step :
    let s := { code [0xFD#8] begin with eiImeEnable := true }
    FetchesNow s ∧ (memRead (boundaryState s).pc (boundaryState s)).1 = 0xFD#8 := ⟨⟨rfl, rfl, rfl, by decide⟩, rfl⟩

/-- A three-byte instruction at the end of the address space, after an EI. -/
theorem test_witness_StepRunsTheDecodedInstruction :
    let s := { code [0x31#8, 0x34#8] { begin with pc := 0xFFFD#16 } with eiImeEnable := true, ie := 0x12#8 }
    FetchesNow s ∧ decode ((memRead 0xFFFD#16 (boundaryState s)).1 ::
      (readBytes 2 0xFFFE#16 (memRead 0xFFFD#16 (boundaryState s)).2).1) = .ok (.ldSPNn 0x1234#16, []) :=
  ⟨⟨rfl, rfl, rfl, by decide⟩, rfl⟩

/-- Under the HALT bug the byte at PC is read twice: 0x06 is then LD B,0x06. -/
theorem test_witness_StepRunsTheDecodedInstruction_haltBug :
    let s := { code [0x06#8] begin with haltBug := true }
    FetchesNow s ∧ decode ((memRead 0xC000#16 (boundaryState s)).1 ::
      (readBytes 1 0xC000#16 (memRead 0xC000#16 (boundaryState s)).2).1) = .ok (.ldBN 0x06#8, []) :=
  ⟨⟨rfl, rfl, rfl, by decide⟩, rfl⟩

theorem test_witness_CountingTick : flying.fault = none ∧ flying.instClocks = 23 + 1 := by decide

theorem test_witness_InstructionOccupiesItsCost : flying.fault = none ∧ 0 < flying.instClocks ∧ 23 < flying.instClocks := by decide

theorem test_witness_Dispatch_vblank :
    due.fault = none ∧ due.instClocks = 0 ∧ due.ime = true ∧
      (due.ie.setWidth 5 &&& (timerStep (requesterMove due)).ifr).getLsbD Source.vblank.bit = true ∧
      ∀ k < Source.vblank.bit, (due.ie.setWidth 5 &&& due.ifr).getLsbD k = false := by decide

/-- The timer requests in the very tick that dispatches it. -/
theorem test_witness_Dispatch_timer :
    let s := { due with ifr := 0b11000#5, divcnt := 0x000F#16, tac := 0b101#3, tima := 0xFF#8 }
    let s1 := timerStep (requesterMove s)
    s.fault = none ∧ s.instClocks = 0 ∧ s.ime = true ∧ (s1.ie.setWidth 5 &&& s1.ifr).getLsbD Source.timer.bit = true ∧
      ∀ k < Source.timer.bit, (s1.ie.setWidth 5 &&& s1.ifr).getLsbD k = false := by decide

theorem test_witness_Dispatch_joypad :
    let s := { due with ifr := 0b10000#5 }
    let s1 := timerStep (requesterMove s)
    (s1.ie.setWidth 5 &&& s1.ifr).getLsbD Source.joypad.bit = true ∧
      ∀ k < Source.joypad.bit, (s1.ie.setWidth 5 &&& s1.ifr).getLsbD k = false := by decide

theorem test_witness_HaltedBoundary_charges :
    asleep.fault = none ∧ asleep.instClocks = 0 ∧ asleep.isHalted = true ∧ pending (timerStep (requesterMove asleep)) = 0#5 := by
  decide

theorem test_witness_HaltedBoundary_wakes :
    let s := { asleep with ie := 0x10#8, requests := [{ vblank := false, lcdStat := false, serial := false, joypad := true }] }
    s.fault = none ∧ s.instClocks = 0 ∧ s.isHalted = true ∧ pending (timerStep (requesterMove s)) ≠ 0#5 ∧ s.ime = false := by
  decide

/-- EI armed, an interrupt pending, and NOP, DI, another EI or an invalid byte next; awake, and halted until the wake. -/
theorem test_witness_EiTakesEffect :
    ∀ op ∈ [0x00#8, 0xF3#8, 0xFB#8, 0xD3#8], ∀ asleep,
      let s := { code [op] begin with isHalted := asleep, eiImeEnable := true, ie := 0x01#8, ifr := 0b00001#5 }
      s.fault = none ∧ s.instClocks = 0 ∧ (boundaryState s).isHalted = false ∧ s.ime = false ∧ s.eiImeEnable = true ∧
        steps s (fun _ => true) := by decide

theorem test_witness_ImeIsSet_ei :
    steps { code [0x00#8] begin with eiImeEnable := true } (fun t => t.ime = true) ∧ begin.ime = false := by decide

theorem test_witness_ImeIsSet_reti : steps (code [0xD9#8] begin) (fun t => t.ime = true) := by decide

theorem test_witness_FaultIsTerminal :
    ({ begin with fault := some (.refusedStop 0xC000#16) } : State).fault = some (.refusedStop 0xC000#16) ∧
      steps (code [0xFD#8] begin) (fun t => t.fault = some (.invalidOpcode 0xFD#8 0xC000#16)) ∧
      steps { code [0x10#8, 0x00#8] begin with cfg := { begin.cfg with stopMode := .refuse } }
        (fun t => t.fault = some (.refusedStop 0xC000#16)) := by decide

theorem test_witness_DispatchWithinTwentyFourTicks :
    let s := { due with instClocks := 24 }
    s.Inv ∧ s.fault = none ∧ s.ime = true ∧ pending s ≠ 0#5 := ⟨⟨by decide, by decide, by decide, by decide, by decide⟩,
      by decide, by decide, by decide⟩

theorem test_witness_PowerOnValues :
    Config.default.bootRom = .bypassed ∧ Config.simulatedDefault.bootRom = .simulated := by decide

theorem test_witness_StepKeepsTheInvariant : due.Inv ∧ steps due (fun _ => true) :=
  ⟨⟨by decide, by decide, by decide, by decide, by decide⟩, by decide⟩

theorem test_witness_StepKeepsParametersAndBreakpoint : steps flying (fun _ => true) := by decide

theorem test_witness_tickOnce :
    steps flying (fun t => t.fault = none ∧ t.instClocks ≠ 0) ∧
      step { begin with fault := some (.refusedStop 0xC000#16) } = .fault (.stuck (.refusedStop 0xC000#16)) := ⟨by decide, rfl⟩

/-- The last tick of an instruction is a Boundary; with and without a matching breakpoint. -/
theorem test_witness_tickChecked :
    let s := { begin with instClocks := 1, bpEnabled := true, bpAddr := 0xC000#16 }
    (tickOnce s).1 = .boundary ∧ (tickOnce s).2.bpEnabled = true ∧ (tickOnce s).2.pc = (tickOnce s).2.bpAddr ∧
      (tickOnce { s with bpAddr := 0xC001#16 }).1 = .boundary ∧ (tickOnce flying).1 ≠ .boundary := by decide

theorem test_witness_tickInstr_four : ∃ t, GoesOn 3 flying t :=
  ⟨_, _, _, rfl, .inl rfl, _, _, rfl, .inl rfl, _, _, rfl, .inl rfl, rfl⟩

/-- A fault and Stuck at the first tick, a hit at the second, and a fault at the third, past an unmatched Boundary. -/
theorem test_witness_tickInstr_early :
    Ends (tickChecked (code [0xD3#8] begin)).1 ∧
    Ends (tickChecked { begin with fault := some (.refusedStop 0xC000#16) }).1 ∧
    (∃ t, GoesOn 1 { begin with instClocks := 2, bpEnabled := true, bpAddr := 0xC000#16 } t ∧ Ends (tickChecked t).1) ∧
    (∃ t, GoesOn 2 { code [0xD3#8] begin with instClocks := 2 } t ∧ Ends (tickChecked t).1) :=
  ⟨.inl rfl, .inr (.inl rfl), ⟨_, ⟨_, _, rfl, .inl rfl, rfl⟩, .inr (.inr rfl)⟩,
    ⟨_, ⟨_, _, rfl, .inl rfl, _, _, rfl, .inr rfl, rfl⟩, .inl rfl⟩⟩

/-- A hit at the second tick of a frame, with `frame_done` answering yes after it; and a frame that ends at its second tick. -/
theorem test_witness_tickFrame :
    (∃ t, GoesOn 1 { begin with instClocks := 2, bpEnabled := true, bpAddr := 0xC000#16 } t ∧ Ends (tickChecked t).1) ∧
    (∃ t, GoesOn 2 flying t) :=
  ⟨⟨_, ⟨_, _, rfl, .inl rfl, rfl⟩, .inr (.inr rfl)⟩, ⟨_, _, _, rfl, .inl rfl, _, _, rfl, .inl rfl, rfl⟩⟩

/-- R310: a hit comes before the frame's end; and the fourth tick of tick_instr is not a fifth. -/
theorem test_tickFrame_order :
    (tickFrame [false, true] { begin with instClocks := 2, bpEnabled := true, bpAddr := 0xC000#16 }).1 = .breakpointHit ∧
      (tickFrame [false, true, false] flying).1 = .frameDone ∧ (tickFrame [false, true, false] flying).2.instClocks = 22 ∧
      (tickInstr flying).2.instClocks = 20 := by decide
end Sys2Proof.Tests
end

section
/-! Settles the statements about the register file (10_state.md): pairs and their halves, and the flags in F. -/

namespace Sys2Proof.Machine

open Sys2Proof.Spec

/-! ## Pairs and halves (R31, R32) -/

/-- R32 for a whole pair, and R36 for SP: what is written is read. -/
@[simp] theorem State.pair_setPair_same (s : State) (p : Pair) (v : Word) : (s.setPair p v).pair p = v := by
  cases p with
  | bc => exact State.bc_setBC s v
  | de => exact State.de_setDE s v
  | hl => exact State.hl_setHL s v
  | sp => rfl

/-- Two different pairs share no half, and SP is independent of them all (R36). -/
theorem State.pair_setPair_of_ne (s : State) {p q : Pair} (v : Word) (h : p ≠ q) :
    (s.setPair p v).pair q = s.pair q := by
  cases p <;> cases q <;> simp at h <;> rfl

theorem State.reg_setReg_same (s : State) (r : Reg8) (w : Byte) : (s.setReg r w).reg r = w := by
  rw [State.reg_setReg, if_pos rfl]

theorem State.reg_setReg_of_ne (s : State) {r q : Reg8} (w : Byte) (h : r ≠ q) : (s.setReg r w).reg q = s.reg q := by
  rw [State.reg_setReg, if_neg h.symm]

/-- Settles O5: every pair is `joinBytes` of its halves, so a half written shows in its byte of the pair by definition; a pair
written reads back because a word is its two bytes joined. -/
theorem pairsAndHalvesAreOneStorage : Obligations.PairsAndHalvesAreOneStorage := by
  intro s v w
  exact ⟨joinBytes_toNat s.a (maskF s.f), rfl, joinBytes_toNat s.b s.c, joinBytes_toNat s.d s.e, joinBytes_toNat s.h s.l,
    fun p => s.pair_setPair_same p v, fun _ _ h => s.pair_setPair_of_ne v h,
    fun r => s.reg_setReg_same r w, fun _ _ h => s.reg_setReg_of_ne w h,
    rfl, rfl, rfl, rfl, rfl, rfl⟩

/-! ## The flags in F (R33, R34) -/

theorem Flags.toByte_eq_flagByte (g : Flags) : g.toByte = flagByte g.z g.n g.h g.c := by
  rcases g with ⟨z, n, h, c⟩
  cases z <;> cases n <;> cases h <;> cases c <;> rfl

/-- Where each bit of F comes from (R34). -/
theorem Flags.getLsbD_toByte (g : Flags) (k : Fin 8) :
    g.toByte.getLsbD k = ![false, false, false, false, g.c, g.h, g.n, g.z] k := by
  rcases g with ⟨z, n, h, c⟩
  fin_cases k <;> cases z <;> cases n <;> cases h <;> cases c <;> rfl

/-- F's flags written back are F with its low nibble cleared: the top nibble holds the flags and nothing else (R33, R34). -/
theorem Flags.toByte_ofByte (f : Byte) : (Flags.ofByte f).toByte = maskF f := by
  apply BitVec.eq_of_getLsbD_eq
  intro i hi
  rw [Flags.getLsbD_toByte _ ⟨i, hi⟩, maskF, BitVec.getLsbD_and]
  interval_cases i <;> simp [Flags.ofByte]

/-- The low byte of AF is the byte of the four flags, whatever F's low nibble holds (R33). -/
theorem State.loByte_af (s : State) : loByte s.af = s.flags.toByte :=
  (loByte_joinBytes s.a (maskF s.f)).trans (Flags.toByte_ofByte s.f).symm

/-- Settles O6: the flags and the top nibble of F determine each other, and every writer of F clears the low nibble. -/
theorem flagsAreTheTopNibbleOfF : Obligations.FlagsAreTheTopNibbleOfF := by
  refine ⟨fun s z n h c => ⟨?_, ?_⟩, fun _ _ => ⟨rfl, rfl⟩, fun s => ?_⟩
  · exact Flags.toByte_eq_flagByte _
  · exact State.flags_setFlags s _
  · exact s.loByte_af.trans (Flags.toByte_eq_flagByte s.flags)

end Sys2Proof.Machine
end

section
/-! Settles the statement about the jumps (30_encoding.md R107, 44_control.md R241 to R245): when a condition holds, and what a
jump does taken and not taken. -/

namespace Sys2Proof.Machine

open Sys2Proof.Spec

/-! ## What a form of the primary map decodes (R100, R103) -/

/-- A 16-bit immediate is its low byte, then its high byte (R103). -/
theorem immBytes_eq (nn : Word) : immBytes nn = [loByte nn, hiByte nn] := by
  have hlo : BitVec.ofNat 8 (nn.toNat % 256) = loByte nn := by
    apply BitVec.eq_of_toNat_eq
    simp [loByte]
  have hhi : BitVec.ofNat 8 (nn.toNat / 256) = hiByte nn := by
    apply BitVec.eq_of_toNat_eq
    simp [hiByte, Nat.shiftRight_eq_div_pow]
  rw [immBytes, hlo, hhi]

theorem encodes_of_primary_op0 {op : Byte} {i : Instr} (h : primary op = .op0 i) : Encodes [op] i := by
  intro tail
  simp [decode, h]

theorem encodes_of_primary_op1 {op : Byte} {f : Byte → Instr} (h : primary op = .op1 f) (n : Byte) :
    Encodes [op, n] (f n) := by
  intro tail
  simp [decode, h]

theorem encodes_of_primary_op2 {op : Byte} {f : Word → Instr} (h : primary op = .op2 f) (nn : Word) :
    Encodes (op :: immBytes nn) (f nn) := by
  intro tail
  rw [immBytes_eq]
  simp [decode, h, joinBytes_hi_lo]

/-! ## Jumps (R241 to R245) -/

theorem primary_jpCond (cc : Cond) : primary (patternCond 0b11 0 (condField cc) 0b010) = .op2 (.jpCond cc) := by
  cases cc <;> rfl

theorem primary_jrCond (cc : Cond) : primary (patternCond 0b00 1 (condField cc) 0b000) = .op1 (.jrCond cc) := by
  cases cc <;> rfl

/-- R242: a jump not taken leaves PC, which is already past its bytes (R240). -/
theorem jumpCond_eq (cc : Cond) (nn : Word) (s : State) :
    jumpCond cc nn s =
      .next (if condHolds cc s then { s with pc := nn, instClocks := 16 } else { s with instClocks := 12 }) := by
  rw [jumpCond]
  split <;> rfl

/-- R245, the offset counted from PC past the instruction (R244). -/
theorem jumpRelCond_eq (cc : Cond) (e : Byte) (s : State) :
    jumpRelCond cc e s =
      .next (if condHolds cc s then { s with pc := s.pc + BitVec.ofInt 16 e.toInt, instClocks := 12 }
        else { s with instClocks := 8 }) := by
  rw [jumpRelCond]
  split <;> rfl

/-- Settles O38: each first byte's cell of the primary map is its jump, a condition reads its bit of F, and a conditional jump
splits on its condition. -/
theorem jumpsTakenAndNotTaken : Obligations.JumpsTakenAndNotTaken := by
  intro cc nn e s
  refine ⟨?_, ⟨encodes_of_primary_op2 rfl nn, rfl⟩, ⟨encodes_of_primary_op2 (primary_jpCond cc) nn, ?_⟩,
    ⟨encodes_of_primary_op0 rfl, rfl⟩, ⟨encodes_of_primary_op1 rfl e, rfl⟩,
    ⟨encodes_of_primary_op1 (primary_jrCond cc) e, ?_⟩⟩
  · cases cc <;> rfl
  · rw [exec_jpCond, jumpCond_eq]
  · rw [exec_jrCond, jumpRelCond_eq]

end Sys2Proof.Machine
end

section
/-! Settles the statements about the loads and stores of bytes and of 16-bit immediates (40_loads.md R141 to R160, R162): the
cell of each first byte in the primary map, and what the instruction there does. -/

namespace Sys2Proof.Machine

open Sys2Proof.Spec

/-! ## The cells of the field patterns (R104, R105, R112) -/

theorem primary_ldRegReg (r src : Reg8) : primary (pattern 0b01 (regField r) (regField src)) = .op0 (.ldRegReg r src) := by
  cases r <;> cases src <;> rfl

theorem primary_ldRegImm (r : Reg8) : primary (pattern 0b00 (regField r) 0b110) = .op1 (.ldRegImm r) := by
  cases r <;> rfl

theorem primary_ldRegAtHL (r : Reg8) : primary (pattern 0b01 (regField r) 0b110) = .op0 (.ldRegAtHL r) := by
  cases r <;> rfl

theorem primary_ldAtHLReg (r : Reg8) : primary (pattern 0b01 0b110 (regField r)) = .op0 (.ldAtHLReg r) := by
  cases r <;> rfl

theorem primary_ldPairImm (p : Pair) : primary (patternPair 0b00 (pairField p) 0 0b001) = .op2 (.ldPairImm p) := by
  cases p <;> rfl

/-! ## Registers and immediates (R141, R142, R160, R162) -/

/-- Settles O16: each first byte's cell of the primary map is the instruction of its fields, and `exec` of it is the one shared
form, at those operands. -/
theorem registerAndImmediateLoads : Obligations.RegisterAndImmediateLoads := by
  refine ⟨fun r src s => ⟨encodes_of_primary_op0 (primary_ldRegReg r src), ?_⟩,
    fun r n s => ⟨encodes_of_primary_op1 (primary_ldRegImm r) n, ?_⟩,
    fun p nn s => ⟨encodes_of_primary_op2 (primary_ldPairImm p) nn, ?_⟩,
    fun s => ⟨encodes_of_primary_op0 rfl, rfl⟩⟩
  · rw [exec_ldRegReg, loadRegReg, complete]
  · rw [exec_ldRegImm, loadRegImm, complete]
  · rw [exec_ldPairImm, loadPairImm, complete]

/-! ## Bytes from and to memory (R143 to R155) -/

/-- Settles O17: the address is taken from the state before the read, so a load into H or L reads at the old HL; the loads other
than `LD r,(HL)` each have one cell of the map and one destination, A. -/
theorem byteLoadsFromMemory : Obligations.ByteLoadsFromMemory := by
  intro s r n nn
  refine ⟨⟨encodes_of_primary_op0 (primary_ldRegAtHL r), ?_⟩, ⟨encodes_of_primary_op0 rfl, rfl⟩,
    ⟨encodes_of_primary_op0 rfl, rfl⟩, ⟨encodes_of_primary_op2 rfl nn, rfl⟩, ⟨encodes_of_primary_op1 rfl n, rfl⟩,
    ⟨encodes_of_primary_op0 rfl, rfl⟩⟩
  rw [exec_ldRegAtHL, loadRegAt, complete]

/-- Settles O18: the address and the byte are both taken from the state before the write, so `LD (HL),H` and `LD (HL),L` store
a byte of the address; the stores other than `LD (HL),r` each have one cell of the map. -/
theorem byteStoresToMemory : Obligations.ByteStoresToMemory := by
  intro s r n nn
  refine ⟨⟨encodes_of_primary_op0 (primary_ldAtHLReg r), ?_⟩, ⟨encodes_of_primary_op1 rfl n, rfl⟩,
    ⟨encodes_of_primary_op0 rfl, rfl⟩, ⟨encodes_of_primary_op0 rfl, rfl⟩, ⟨encodes_of_primary_op2 rfl nn, rfl⟩,
    ⟨encodes_of_primary_op1 rfl n, rfl⟩, ⟨encodes_of_primary_op0 rfl, rfl⟩⟩
  rw [exec_ldAtHLReg, storeAt, complete]

/-! ## Stepping HL (R156 to R159) -/

/-- A and HL are different registers, so it does not matter that the model writes A before it steps HL. -/
theorem loadAStep_eq (step : Word) (s : State) :
    loadAStep step s =
      .next { (memRead s.hl s).2.setHL (s.hl + step) with a := (memRead s.hl s).1, instClocks := 8 } := rfl

theorem storeAStep_eq (step : Word) (s : State) :
    storeAStep step s = .next { (memWrite s.hl s.a s).setHL (s.hl + step) with instClocks := 8 } := rfl

/-- Settles O19: the four forms are one load and one store, at a step of 1 or -1; a step of -1 is the rules' decrement. -/
theorem steppingLoadsAndStores : Obligations.SteppingLoadsAndStores := by
  intro s
  refine ⟨⟨encodes_of_primary_op0 rfl, storeAStep_eq 1#16 s⟩, ⟨encodes_of_primary_op0 rfl, loadAStep_eq 1#16 s⟩,
    ⟨encodes_of_primary_op0 rfl, ?_⟩, ⟨encodes_of_primary_op0 rfl, ?_⟩⟩
  · rw [← add_neg_one]
    exact storeAStep_eq (-1#16) s
  · rw [← add_neg_one]
    exact loadAStep_eq (-1#16) s

end Sys2Proof.Machine
end

section
/-! Settles the statements about 8-bit arithmetic and logic (41_alu8.md R180 to R197), one instruction at a time: R180's closed
forms of a sum and a difference, then the operations on A and the increments by way of them, DAA, and CPL, SCF and CCF. -/

namespace Sys2Proof.Machine

open Sys2Proof.Spec

/-! ## Carries and borrows (R180) -/

theorem carryIn_eq (c : Bool) : carryIn c = BitVec.setWidth 16 (BitVec.ofBool c) := by
  cases c <;> rfl

/-- Bit `k` of `x ^ y ^ (x + y + c)` is the carry into bit `k`. -/
theorem xorBit_add {w k : Nat} (hk : k < w) (x y : BitVec w) (c : Bool) :
    xorBit x y (x + y + BitVec.setWidth w (BitVec.ofBool c)) k = BitVec.carry k x y c := by
  rw [xorBit, BitVec.getLsbD_xor, BitVec.getLsbD_xor, BitVec.getLsbD_add_add_bool hk]
  cases x.getLsbD k <;> cases y.getLsbD k <;> simp

theorem toNat_add_carry_mod {w k : Nat} (hk : k < w) (x y : BitVec w) (c : Bool) :
    (x + y + BitVec.setWidth w (BitVec.ofBool c)).toNat % 2 ^ k = (x.toNat % 2 ^ k + y.toNat % 2 ^ k + c.toNat) % 2 ^ k := by
  have hdvd : 2 ^ k ∣ 2 ^ w := Nat.pow_dvd_pow 2 hk.le
  simp [Nat.mod_mod_of_dvd _ hdvd, Nat.add_mod]

/-- A sum of two residues and a carry wraps exactly where what is left is below one residue and the carry. -/
theorem le_add_carry_iff_mod_lt {p r y : Nat} (c : Bool) (hr : r < p) (hy : y < p) :
    p ≤ r + y + c.toNat ↔ (r + y + c.toNat) % p < y + c.toNat := by
  have hc := c.toNat_le
  rcases Nat.lt_or_ge (r + y + c.toNat) p with hlt | hge
  · rw [Nat.mod_eq_of_lt hlt]
    omega
  · rw [Nat.mod_eq_sub_mod hge, Nat.mod_eq_of_lt (by omega)]
    omega

/-- Bit `k` of `x ^ y ^ (x - y - c)` is the borrow into bit `k`: the difference, `y` and `c` add up to `x`, and the bit is the
carry of that sum. -/
theorem xorBit_sub {w k : Nat} (hk : k < w) (x y : BitVec w) (c : Bool) :
    xorBit x y (x - y - BitVec.setWidth w (BitVec.ofBool c)) k =
      decide (x.toNat % 2 ^ k < y.toNat % 2 ^ k + c.toNat) := by
  generalize hr : x - y - BitVec.setWidth w (BitVec.ofBool c) = r
  have hx : x = r + y + BitVec.setWidth w (BitVec.ofBool c) := by
    rw [← hr]
    ring
  have hxor : xorBit x y r k = xorBit r y x k := by
    rw [xorBit, xorBit]
    ac_rfl
  have hpos : 0 < 2 ^ k := Nat.two_pow_pos k
  rw [hxor, hx, xorBit_add hk, toNat_add_carry_mod hk, BitVec.carry, decide_eq_decide]
  exact le_add_carry_iff_mod_lt c (Nat.mod_lt _ hpos) (Nat.mod_lt _ hpos)

@[simp] theorem zext16_toNat (v : Byte) : (zext16 v).toNat = v.toNat := by
  rw [zext16, BitVec.toNat_setWidth_of_le (by decide)]

@[simp] theorem carryIn_toNat (c : Bool) : (carryIn c).toNat = c.toNat := by
  cases c <;> rfl

theorem loByte_toNat (v : Word) : (loByte v).toNat = v.toNat % 256 := by
  simp [loByte]

theorem ofNat_eq_zero_iff (n : Nat) : BitVec.ofNat 8 n = 0x00#8 ↔ n % 256 = 0 := by
  rw [← BitVec.toNat_inj, BitVec.toNat_ofNat]
  rfl

theorem ofInt_eq_zero_iff (i : Int) : BitVec.ofInt 8 i = 0x00#8 ↔ i % 256 = 0 := by
  rw [← BitVec.toNat_inj, BitVec.toNat_ofInt, BitVec.toNat_ofNat]
  omega

/-- R180's sum in closed form: H and C are the carries into bits 4 and 8 of the 16-bit sum. -/
theorem add8_eq (a b : Byte) (c : Bool) :
    add8 a b c = (BitVec.ofNat 8 (a.toNat + b.toNat + c.toNat),
      { z := decide ((a.toNat + b.toNat + c.toNat) % 256 = 0)
        n := false
        h := decide (a.toNat % 16 + b.toNat % 16 + c.toNat > 15)
        c := decide (a.toNat + b.toNat + c.toNat > 255) }) := by
  have hsum : loByte (zext16 a + zext16 b + carryIn c) = BitVec.ofNat 8 (a.toNat + b.toNat + c.toNat) := by
    apply BitVec.eq_of_toNat_eq
    rw [loByte_toNat, BitVec.toNat_add, BitVec.toNat_add, zext16_toNat, zext16_toNat, carryIn_toNat, BitVec.toNat_ofNat]
    omega
  rw [add8, hsum, carryIn_eq, xorBit_add (by decide), xorBit_add (by decide), BitVec.carry, BitVec.carry, zext16_toNat,
    zext16_toNat, Nat.mod_eq_of_lt a.isLt, Nat.mod_eq_of_lt b.isLt]
  simp only [ofNat_eq_zero_iff]
  rfl

/-- R180's difference in closed form: H and C are the borrows into bits 4 and 8 of the 16-bit difference. -/
theorem sub8_eq (a b : Byte) (c : Bool) :
    sub8 a b c = (BitVec.ofInt 8 (a.toNat - b.toNat - c.toNat),
      { z := decide (((a.toNat : Int) - b.toNat - c.toNat) % 256 = 0)
        n := true
        h := decide (a.toNat % 16 < b.toNat % 16 + c.toNat)
        c := decide (a.toNat < b.toNat + c.toNat) }) := by
  have hdiff : loByte (zext16 a - zext16 b - carryIn c) = BitVec.ofInt 8 (a.toNat - b.toNat - c.toNat) := by
    have hc := c.toNat_le
    apply BitVec.eq_of_toNat_eq
    rw [loByte_toNat, BitVec.toNat_sub, BitVec.toNat_sub, zext16_toNat, zext16_toNat, carryIn_toNat, BitVec.toNat_ofInt]
    omega
  rw [sub8, hdiff, carryIn_eq, xorBit_sub (by decide), xorBit_sub (by decide), zext16_toNat, zext16_toNat,
    Nat.mod_eq_of_lt a.isLt, Nat.mod_eq_of_lt b.isLt]
  simp only [ofInt_eq_zero_iff]
  rfl

/-- Without a carry in, a difference of bytes is 0 only between equal bytes. -/
theorem sub8_false_eq (a b : Byte) :
    sub8 a b false = (BitVec.ofInt 8 (a.toNat - b.toNat),
      { z := decide (a.toNat = b.toNat)
        n := true
        h := decide (a.toNat % 16 < b.toNat % 16)
        c := decide (a.toNat < b.toNat) }) := by
  have hz : ((a.toNat : Int) - b.toNat) % 256 = 0 ↔ a.toNat = b.toNat := by omega
  simp only [sub8_eq, Bool.toNat_false, Nat.cast_zero, sub_zero, add_zero, hz]

/-! ## The operations on A (R181 to R189) -/

theorem primary_aluReg (op : AluOp) (t : Target) :
    primary (pattern 0b10 (aluField op) (targetField t)) = .op0 (.aluReg op t) := by
  cases t with
  | atHL => cases op <;> rfl
  | reg r => cases op <;> cases r <;> rfl

theorem primary_aluImm (op : AluOp) : primary (pattern 0b11 (aluField op) 6) = .op1 (.aluImm op) := by
  cases op <;> rfl

theorem encodes_alu (op : AluOp) (o : Operand8) : Encodes (aluBytes op o) (aluInstr op o) := by
  cases o with
  | reg r => exact encodes_of_primary_op0 (primary_aluReg op (.reg r))
  | atHL => exact encodes_of_primary_op0 (primary_aluReg op .atHL)
  | imm n => exact encodes_of_primary_op1 (primary_aluImm op) n

/-- What an operation on A does, by its result and flags alone: the operand is read once, then A and F are written. -/
theorem exec_aluInstr (op : AluOp) (o : Operand8) (s : State) :
    exec (aluInstr op o) s =
      .next { operandState s o with
        a := (aluResult op s.a (operandValue s o) s.flags.c).1
        f := (aluResult op s.a (operandValue s o) s.flags.c).2.toByte
        instClocks := aluCost o } := by
  cases o with
  | reg r => exact exec_aluReg op (.reg r) s
  | atHL => exact exec_aluReg op .atHL s
  | imm n => exact exec_aluImm op n s

@[simp] theorem operandState_a (s : State) (o : Operand8) : (operandState s o).a = s.a := by
  cases o with
  | reg r => rfl
  | atHL => exact memRead_a s.hl s
  | imm n => rfl

/-- Settles O23: ADD and ADC are R180's sum, without a carry in and with F.C. -/
theorem additionResultAndFlags : Obligations.AdditionResultAndFlags := by
  refine fun o s => ⟨⟨encodes_alu .add o, ?_⟩, ⟨encodes_alu .adc o, ?_⟩⟩
  · rw [exec_aluInstr, aluResult, add8_eq, Flags.toByte_eq_flagByte]
    rfl
  · rw [exec_aluInstr, aluResult, add8_eq, Flags.toByte_eq_flagByte]

/-- Settles O24: SUB, SBC and CP are R180's difference; the read of CP's operand leaves A as it was, so the A that CP writes
back is no change. -/
theorem subtractionAndCompare : Obligations.SubtractionAndCompare := by
  refine fun o s => ⟨⟨encodes_alu .sub o, ?_⟩, ⟨encodes_alu .sbc o, ?_⟩, ⟨encodes_alu .cp o, ?_⟩⟩
  · rw [exec_aluInstr, aluResult, sub8_false_eq, Flags.toByte_eq_flagByte]
  · rw [exec_aluInstr, aluResult, sub8_eq, Flags.toByte_eq_flagByte]
  · rw [exec_aluInstr, aluResult, sub8_false_eq, Flags.toByte_eq_flagByte, ← operandState_a s o]

/-- Settles O25: a logic operation's flags are its result's and the constants of its rule; an XOR is 0 only between equal
bytes. -/
theorem logicResultAndFlags : Obligations.LogicResultAndFlags := by
  refine fun o s => ⟨⟨encodes_alu .and o, ?_⟩, ⟨encodes_alu .xor o, ?_⟩, ⟨encodes_alu .or o, ?_⟩⟩
  · rw [exec_aluInstr, aluResult, logic8, Flags.toByte_eq_flagByte]
    rfl
  · rw [exec_aluInstr, aluResult, logic8, Flags.toByte_eq_flagByte]
    simp only [BitVec.xor_eq_zero_iff]
  · rw [exec_aluInstr, aluResult, logic8, Flags.toByte_eq_flagByte]
    rfl

/-! ## Increments and decrements (R190 to R193) -/

/-- INC is R180's sum with 1, but for C. -/
theorem inc8_eq_add8 (v : Byte) (g : Flags) :
    inc8 v g = ((add8 v 1#8 false).1, { (add8 v 1#8 false).2 with c := g.c }) := by
  have hsum : zext16 v + zext16 1#8 + carryIn false = zext16 v + 1#16 := BitVec.add_zero _
  have hlow : loByte (zext16 v + 1#16) = v + 1#8 := by
    apply BitVec.eq_of_toNat_eq
    rw [loByte_toNat, BitVec.toNat_add, BitVec.toNat_add, zext16_toNat, BitVec.toNat_ofNat, BitVec.toNat_ofNat]
    omega
  rw [add8, hsum, hlow]
  rfl

/-- DEC is R180's difference with 1, but for C. -/
theorem dec8_eq_sub8 (v : Byte) (g : Flags) :
    dec8 v g = ((sub8 v 1#8 false).1, { (sub8 v 1#8 false).2 with c := g.c }) := by
  have hdiff : zext16 v - zext16 1#8 - carryIn false = zext16 v - 1#16 := BitVec.sub_zero _
  have hlow : loByte (zext16 v - 1#16) = v - 1#8 := by
    apply BitVec.eq_of_toNat_eq
    rw [loByte_toNat, BitVec.toNat_sub, BitVec.toNat_sub, zext16_toNat, BitVec.toNat_ofNat, BitVec.toNat_ofNat]
    omega
  rw [sub8, hdiff, hlow]
  rfl

theorem inc8_eq (v : Byte) (g : Flags) :
    inc8 v g = (BitVec.ofNat 8 (v.toNat + 1),
      { z := decide (v.toNat = 255), n := false, h := decide (v.toNat % 16 = 15), c := g.c }) := by
  have hz : (v.toNat + 1) % 256 = 0 ↔ v.toNat = 255 := by omega
  have hh : v.toNat % 16 + 1 > 15 ↔ v.toNat % 16 = 15 := by omega
  simp [inc8_eq_add8, add8_eq, hz, hh]

theorem dec8_eq (v : Byte) (g : Flags) :
    dec8 v g = (BitVec.ofNat 8 (v.toNat + 255),
      { z := decide (v.toNat = 1), n := true, h := decide (v.toNat % 16 = 0), c := g.c }) := by
  have hval : BitVec.ofInt 8 (v.toNat - 1) = BitVec.ofNat 8 (v.toNat + 255) := by
    apply BitVec.eq_of_toNat_eq
    rw [BitVec.toNat_ofInt, BitVec.toNat_ofNat]
    omega
  simp [dec8_eq_sub8, sub8_false_eq, hval]

theorem primary_incReg (r : Reg8) : primary (pattern 0b00 (regField r) 0b100) = .op0 (.incReg r) := by
  cases r <;> rfl

theorem primary_decReg (r : Reg8) : primary (pattern 0b00 (regField r) 0b101) = .op0 (.decReg r) := by
  cases r <;> rfl

/-- Reading the byte at HL leaves HL, so the read and the write of `INC (HL)` and `DEC (HL)` are at one address. -/
theorem putTarget_getTarget (t : Target) (w : Byte) (s : State) :
    putTarget t w (getTarget t s).2 = targetPut s w t := by
  cases t with
  | reg r => rfl
  | atHL =>
    show memWrite (memRead s.hl s).2.hl w (memRead s.hl s).2 = memWrite s.hl w (memRead s.hl s).2
    rw [State.hl, memRead_h, memRead_l]
    rfl

/-- `Get(r)`'s value (R224). -/
theorem getTarget_fst (t : Target) (s : State) : (getTarget t s).1 = targetValue s t := by
  cases t <;> rfl

theorem incTarget_eq (t : Target) (s : State) :
    incTarget t s =
      .next { targetPut s (BitVec.ofNat 8 ((targetValue s t).toNat + 1)) t with
        f := flagByte (decide ((targetValue s t).toNat = 255)) false (decide ((targetValue s t).toNat % 16 = 15)) s.flags.c
        instClocks := stepCost t } := by
  rw [incTarget, complete, putTarget_getTarget, getTarget_fst, inc8_eq, State.setFlags, Flags.toByte_eq_flagByte]

theorem decTarget_eq (t : Target) (s : State) :
    decTarget t s =
      .next { targetPut s (BitVec.ofNat 8 ((targetValue s t).toNat + 255)) t with
        f := flagByte (decide ((targetValue s t).toNat = 1)) true (decide ((targetValue s t).toNat % 16 = 0)) s.flags.c
        instClocks := stepCost t } := by
  rw [decTarget, complete, putTarget_getTarget, getTarget_fst, dec8_eq, State.setFlags, Flags.toByte_eq_flagByte]

/-- Settles O26: a register and the byte at HL are one target; its new value and the flags are R180's sum or difference
with 1. -/
theorem incrementAndDecrementByte : Obligations.IncrementAndDecrementByte := by
  intro t s
  cases t with
  | reg r =>
    exact ⟨⟨encodes_of_primary_op0 (primary_incReg r), (exec_incReg r s).trans (incTarget_eq (.reg r) s)⟩,
      ⟨encodes_of_primary_op0 (primary_decReg r), (exec_decReg r s).trans (decTarget_eq (.reg r) s)⟩⟩
  | atHL =>
    exact ⟨⟨encodes_of_primary_op0 rfl, incTarget_eq .atHL s⟩, ⟨encodes_of_primary_op0 rfl, decTarget_eq .atHL s⟩⟩

/-! ## DAA (R194) -/

/-- The correction after a subtraction: C and H alone choose what is taken away, on bytes as on integers. -/
theorem daaAdjust_of_n {a : Byte} {g : Flags} (hn : g.n = true) :
    daaAdjust a g = (BitVec.ofInt 8 (daaInt a.toNat g.n g.h g.c).1, (daaInt a.toNat g.n g.h g.c).2) := by
  rw [daaAdjust, daaInt, if_pos hn, if_pos hn]
  cases g.c <;> cases g.h <;> simp [sub_eq_add_neg, BitVec.ofInt_add]

theorem and_0F_toNat (a : Byte) : (a &&& 0x0F#8).toNat = a.toNat % 16 := by
  rw [BitVec.toNat_and]
  exact Nat.and_two_pow_sub_one_eq_mod a.toNat 4

/-- The correction after an addition. The rule reads the low digit after its first addend, 0x60, which leaves that digit as it
was. -/
theorem daaAdjust_of_not_n {a : Byte} {g : Flags} (hn : ¬g.n = true) :
    daaAdjust a g = (BitVec.ofInt 8 (daaInt a.toNat g.n g.h g.c).1, (daaInt a.toNat g.n g.h g.c).2) := by
  have hlow (hi : Bool) : (if hi then (a.toNat : Int) + 0x60 else a.toNat) % 16 > 9 ↔ a.toNat % 16 > 9 := by
    cases hi <;> simp <;> omega
  have hhigh : (a.toNat : Int) > 0x99 ↔ a.toNat > 0x99 := by omega
  rw [daaAdjust, daaInt, if_neg hn, if_neg hn]
  simp only [and_0F_toNat, hlow, hhigh]
  cases g.c || decide (a.toNat > 0x99) <;> cases g.h || decide (a.toNat % 16 > 9) <;>
    simp [BitVec.ofInt_add]

/-- The model adjusts bytes, wrapping at every step, and R194 adjusts integers, reduced once at the end. -/
theorem daaAdjust_eq (a : Byte) (g : Flags) :
    daaAdjust a g = (BitVec.ofInt 8 (daaInt a.toNat g.n g.h g.c).1, (daaInt a.toNat g.n g.h g.c).2) := by
  by_cases hn : g.n = true
  · exact daaAdjust_of_n hn
  · exact daaAdjust_of_not_n hn

/-- Settles O27: the adjusted byte and its carry are R194's, and DAA's other flags are Z of that byte, N kept and H clear. -/
theorem decimalAdjustAlgorithm : Obligations.DecimalAdjustAlgorithm := by
  refine fun s => ⟨encodes_of_primary_op0 rfl, ?_⟩
  show decimalAdjust s = _
  rw [decimalAdjust, complete, daa, daaAdjust_eq, State.setFlags, Flags.toByte_eq_flagByte]
  simp only [ofInt_eq_zero_iff]

/-! ## Complement and carry (R195 to R197) -/

/-- Settles O29: `~A` is `255 - A`, and each F is the byte of the flags it names. -/
theorem complementAndCarryOperations : Obligations.ComplementAndCarryOperations := by
  intro s
  have hcpl : ~~~s.a = BitVec.ofNat 8 (255 - s.a.toNat) := by
    apply BitVec.eq_of_toNat_eq
    rw [BitVec.toNat_not, BitVec.toNat_ofNat]
    omega
  refine ⟨⟨encodes_of_primary_op0 rfl, ?_⟩, ⟨encodes_of_primary_op0 rfl, ?_⟩, ⟨encodes_of_primary_op0 rfl, ?_⟩⟩
  · show execCpl s = _
    rw [execCpl, complete, State.setFlags, Flags.toByte_eq_flagByte, hcpl]
  · show execScf s = _
    rw [execScf, complete, State.setFlags, Flags.toByte_eq_flagByte]
  · show execCcf s = _
    rw [execCcf, complete, State.setFlags, Flags.toByte_eq_flagByte]

end Sys2Proof.Machine
end

section
/-! Settles the statements about 16-bit arithmetic (42_alu16.md R210 to R213): the sums of R210 and R213 in closed form, then the
instructions by way of them. -/

namespace Sys2Proof.Machine

open Sys2Proof.Spec

/-! ## ADD HL,rr (R210) -/

theorem primary_addHLPair (p : Pair) : primary (patternPair 0b00 (pairField p) 1 0b001) = .op0 (.addHLPair p) := by
  cases p <;> rfl

/-- Bit `k` of `x ^ y ^ (x + y)` is the carry out of the `k` bits below it. -/
theorem xorBit_add_eq_decide {w k : Nat} (hk : k < w) (x y : BitVec w) :
    xorBit x y (x + y) k = decide (x.toNat % 2 ^ k + y.toNat % 2 ^ k ≥ 2 ^ k) := by
  simpa [BitVec.carry] using xorBit_add hk x y false

/-- R210's sum in closed form: H and C are the carries into bits 12 and 16 of the 32-bit sum. -/
theorem add16_eq (a b : Word) (g : Flags) :
    add16 a b g = (BitVec.ofNat 16 (a.toNat + b.toNat),
      { z := g.z
        n := false
        h := decide (a.toNat % 4096 + b.toNat % 4096 > 4095)
        c := decide (a.toNat + b.toNat > 65535) }) := by
  have hwide (v : Word) : (v.setWidth 32).toNat = v.toNat := BitVec.toNat_setWidth_of_le (by decide)
  have hsum : (a.setWidth 32 + b.setWidth 32).setWidth 16 = BitVec.ofNat 16 (a.toNat + b.toNat) := by
    apply BitVec.eq_of_toNat_eq
    rw [BitVec.toNat_setWidth, BitVec.toNat_add, hwide, hwide, BitVec.toNat_ofNat]
    omega
  rw [add16, hsum, xorBit_add_eq_decide (by decide), xorBit_add_eq_decide (by decide), hwide, hwide,
    Nat.mod_eq_of_lt a.isLt, Nat.mod_eq_of_lt b.isLt]
  rfl

/-- Settles O31: `ADD HL,rr` is R210's sum of HL and the pair, both read before HL is written, so `ADD HL,HL` doubles HL. -/
theorem addPairToHL : Obligations.AddPairToHL := by
  refine fun p s => ⟨encodes_of_primary_op0 (primary_addHLPair p), ?_⟩
  rw [exec_addHLPair, addHL, complete, add16_eq, State.setFlags, Flags.toByte_eq_flagByte]

/-! ## INC rr and DEC rr (R211, R212) -/

theorem primary_incPair (p : Pair) : primary (patternPair 0b00 (pairField p) 0 0b011) = .op0 (.incPair p) := by
  cases p <;> rfl

theorem primary_decPair (p : Pair) : primary (patternPair 0b00 (pairField p) 1 0b011) = .op0 (.decPair p) := by
  cases p <;> rfl

/-- Settles O32: both are one step of the pair, which writes nothing else but the cost; a step of -1 is the rule's
decrement. -/
theorem pairIncrementAndDecrement : Obligations.PairIncrementAndDecrement := by
  refine fun p s => ⟨⟨encodes_of_primary_op0 (primary_incPair p), ?_⟩, ⟨encodes_of_primary_op0 (primary_decPair p), ?_⟩⟩
  · rw [exec_incPair, stepPair, complete]
  · rw [exec_decPair, stepPair, complete, add_neg_one]

/-! ## ADD SP,e (R213) -/

/-- A mask of the low `k` bits leaves a word's residue mod `2 ^ k`. -/
theorem toNat_and_lowMask {w k : Nat} (hk : k ≤ w) (x : BitVec w) :
    (x &&& BitVec.ofNat w (2 ^ k - 1)).toNat = x.toNat % 2 ^ k := by
  have hmask : 2 ^ k - 1 < 2 ^ w := Nat.sub_one_lt_of_le (Nat.two_pow_pos k) (Nat.pow_le_pow_right (by decide) hk)
  rw [BitVec.toNat_and, BitVec.toNat_ofNat, Nat.mod_eq_of_lt hmask, Nat.and_two_pow_sub_one_eq_mod]

/-- R163's and R213's flags are those of the unsigned byte add of SP[7:0] and `e`, whatever `e`'s sign. -/
theorem addSpOffset_eq (sp : Word) (e : Byte) :
    addSpOffset sp e = (sp + e.signExtend 16,
      { z := false
        n := false
        h := decide (sp.toNat % 16 + e.toNat % 16 > 15)
        c := decide (sp.toNat % 256 + e.toNat > 255) }) := by
  have hnibble : (sp &&& 0x000F#16).toNat = sp.toNat % 16 := toNat_and_lowMask (k := 4) (by decide) sp
  have hbyte : (sp &&& 0x00FF#16).toNat = sp.toNat % 256 := toNat_and_lowMask (k := 8) (by decide) sp
  rw [addSpOffset, hnibble, hbyte, and_0F_toNat, sext16]

/-- Settles O33: SP and F are the sum and the flags of `addSpOffset`, both from the SP before. -/
theorem addOffsetToSP : Obligations.AddOffsetToSP := by
  refine fun e s => ⟨encodes_of_primary_op1 rfl e, ?_⟩
  show addSP e s = _
  rw [addSP, complete, addSpOffset_eq, State.setFlags, Flags.toByte_eq_flagByte]

end Sys2Proof.Machine
end

section
/-! Settles the statements about rotates, shifts and bit operations (43_rotate_shift_bit.md R220 to R235): the fields of a CB
instruction's second byte, the rotations as arithmetic on the byte, then the accumulator forms, the CB rotates and shifts, and
BIT, RES and SET. -/

namespace Sys2Proof.Machine

open Sys2Proof.Spec

/-! ## The fields of a CB instruction's second byte (R104, R109, R110) -/

/-- The prefix takes one further byte, and that byte alone selects the instruction. -/
theorem encodes_cb (cb : Byte) : Encodes [0xCB#8, cb] (cbInstr cb) :=
  encodes_of_primary_op1 rfl cb

@[simp] theorem pattern_top (x : BitVec 2) (y z : BitVec 3) : (pattern x y z).extractLsb' 6 2 = x :=
  (BitVec.extractLsb'_append_eq_of_le (by decide)).trans BitVec.extractLsb'_append_eq_left

@[simp] theorem pattern_middle (x : BitVec 2) (y z : BitVec 3) : (pattern x y z).extractLsb' 3 3 = y :=
  (BitVec.extractLsb'_append_eq_of_le (by decide)).trans BitVec.extractLsb'_append_eq_right

@[simp] theorem pattern_low (x : BitVec 2) (y z : BitVec 3) : (pattern x y z).extractLsb' 0 3 = z :=
  BitVec.extractLsb'_append_eq_right

@[simp] theorem targetOfField_targetField (t : Target) : targetOfField (targetField t) = t := by
  cases t with
  | atHL => rfl
  | reg r => cases r <;> rfl

@[simp] theorem rotOfField_rotField (op : RotOp) : rotOfField (rotField op) = op := by
  cases op <;> rfl

theorem encodes_rotate (op : RotOp) (t : Target) :
    Encodes [0xCB#8, pattern 0b00 (rotField op) (targetField t)] (.rotate op t) := by
  simpa [cbInstr] using encodes_cb (pattern 0b00 (rotField op) (targetField t))

theorem encodes_bit (b : Fin 8) (t : Target) :
    Encodes [0xCB#8, pattern 0b01 (BitVec.ofNat 3 b) (targetField t)] (.bit b t) := by
  simpa [cbInstr, bitOfField] using encodes_cb (pattern 0b01 (BitVec.ofNat 3 b) (targetField t))

theorem encodes_res (b : Fin 8) (t : Target) :
    Encodes [0xCB#8, pattern 0b10 (BitVec.ofNat 3 b) (targetField t)] (.res b t) := by
  simpa [cbInstr, bitOfField] using encodes_cb (pattern 0b10 (BitVec.ofNat 3 b) (targetField t))

theorem encodes_set (b : Fin 8) (t : Target) :
    Encodes [0xCB#8, pattern 0b11 (BitVec.ofNat 3 b) (targetField t)] (.set b t) := by
  simpa [cbInstr, bitOfField] using encodes_cb (pattern 0b11 (BitVec.ofNat 3 b) (targetField t))

/-! ## Rotations and shifts as arithmetic (R220 to R232) -/

theorem getLsbD_seven (v : Byte) : v.getLsbD 7 = decide (128 ≤ v.toNat) :=
  BitVec.msb_eq_decide v

theorem getLsbD_zero (v : Byte) : v.getLsbD 0 = decide (v.toNat % 2 = 1) :=
  Nat.testBit_zero v.toNat

theorem toNat_getLsbD_seven (v : Byte) : (v.getLsbD 7).toNat = v.toNat / 128 := by
  have hv := v.isLt
  rw [BitVec.getLsbD, Nat.toNat_testBit]
  omega

theorem toNat_getLsbD_zero (v : Byte) : (v.getLsbD 0).toNat = v.toNat % 2 := by
  rw [BitVec.getLsbD, Nat.toNat_testBit, pow_zero, Nat.div_one]

@[simp] theorem bit0Of_toNat (c : Bool) : (bit0Of c).toNat = c.toNat := by
  cases c <;> rfl

@[simp] theorem bit7Of_toNat (c : Bool) : (bit7Of c).toNat = 128 * c.toNat := by
  cases c <;> rfl

@[simp] theorem shiftLeft_one_toNat (v : Byte) : (v <<< 1).toNat = 2 * v.toNat % 256 := by
  rw [BitVec.toNat_shiftLeft, Nat.shiftLeft_eq, mul_comm]

@[simp] theorem shiftRight_toNat (v : Byte) (k : Nat) : (v >>> k).toNat = v.toNat / 2 ^ k := by
  rw [BitVec.toNat_ushiftRight, Nat.shiftRight_eq_div_pow]

/-- Two bytes that share no bit, one a multiple of a power of two and the other below it, are joined by OR as by a sum. -/
theorem toNat_or_of_disjoint {x y : Byte} (k : Nat) (hx : 2 ^ k ∣ x.toNat) (hy : y.toNat < 2 ^ k) :
    (x ||| y).toNat = x.toNat + y.toNat := by
  obtain ⟨a, ha⟩ := hx
  rw [BitVec.toNat_or, ha, Nat.two_pow_add_eq_or_of_lt hy]

/-- A shift left leaves bit 0 free for the bit that comes in. -/
theorem shiftLeft_or_bit0Of (v : Byte) (c : Bool) :
    v <<< 1 ||| bit0Of c = BitVec.ofNat 8 (2 * v.toNat % 256 + c.toNat) := by
  have hc := c.toNat_lt
  apply BitVec.eq_of_toNat_eq
  rw [toNat_or_of_disjoint 1 (by simp; omega) (by simpa using hc), shiftLeft_one_toNat, bit0Of_toNat, BitVec.toNat_ofNat]
  omega

/-- A shift right leaves bit 7 free for the bit that comes in. -/
theorem shiftRight_or_bit7Of (v : Byte) (c : Bool) :
    v >>> 1 ||| bit7Of c = BitVec.ofNat 8 (v.toNat / 2 + 128 * c.toNat) := by
  have hc := c.toNat_lt
  apply BitVec.eq_of_toNat_eq
  rw [BitVec.or_comm, toNat_or_of_disjoint 7 (by simp) (by simp; omega), shiftRight_toNat, bit7Of_toNat, BitVec.toNat_ofNat]
  omega

theorem shiftLeft_one_eq (v : Byte) : v <<< 1 = BitVec.ofNat 8 (2 * v.toNat % 256) := by
  simpa [bit0Of] using shiftLeft_or_bit0Of v false

theorem shiftRight_one_eq (v : Byte) : v >>> 1 = BitVec.ofNat 8 (v.toNat / 2) := by
  simpa [bit7Of] using shiftRight_or_bit7Of v false

/-- A mask of bit 7 keeps that bit where it is. -/
theorem and_0x80_eq_bit7Of (v : Byte) : v &&& 0x80#8 = bit7Of (v.getLsbD 7) := by
  rw [show (0x80#8 : Byte) = BitVec.twoPow 8 7 from rfl, BitVec.and_twoPow]
  rfl

theorem swapNibbles_eq (v : Byte) :
    (v &&& 0x0F#8) <<< 4 ||| v >>> 4 = BitVec.ofNat 8 (16 * (v.toNat % 16) + v.toNat / 16) := by
  have hv := v.isLt
  have hhigh : ((v &&& 0x0F#8) <<< 4).toNat = 16 * (v.toNat % 16) := by
    rw [BitVec.toNat_shiftLeft, and_0F_toNat, Nat.shiftLeft_eq]
    omega
  apply BitVec.eq_of_toNat_eq
  rw [toNat_or_of_disjoint 4 (by simp [hhigh]) (by simp; omega), hhigh, shiftRight_toNat, BitVec.toNat_ofNat]
  omega

/-- Every operation but SWAP is a shift by one with a bit put in at the free end, and C is the bit that left at the other. -/
theorem rotResult_eq (op : RotOp) (v : Byte) (c : Bool) :
    rotResult op v c = (BitVec.ofNat 8 (rotNat op v.toNat c.toNat).1, (rotNat op v.toNat c.toNat).2) := by
  cases op with
  | rlc => rw [rotResult, rotNat, shiftLeft_or_bit0Of, toNat_getLsbD_seven, getLsbD_seven]
  | rrc => rw [rotResult, rotNat, shiftRight_or_bit7Of, toNat_getLsbD_zero, getLsbD_zero]
  | rl => rw [rotResult, rotNat, shiftLeft_or_bit0Of, getLsbD_seven]
  | rr => rw [rotResult, rotNat, shiftRight_or_bit7Of, getLsbD_zero]
  | sla => rw [rotResult, rotNat, shiftLeft_one_eq, getLsbD_seven]
  | sra => rw [rotResult, rotNat, and_0x80_eq_bit7Of, shiftRight_or_bit7Of, toNat_getLsbD_seven, getLsbD_zero]
  | swap => rw [rotResult, rotNat, swapNibbles_eq]
  | srl => rw [rotResult, rotNat, shiftRight_one_eq, getLsbD_zero]

theorem rotNat_fst_lt (op : RotOp) {v c : Nat} (hv : v < 256) (hc : c < 2) : (rotNat op v c).1 < 256 := by
  cases op <;> simp only [rotNat] <;> omega

/-! ## RLCA, RRCA, RLA and RRA (R220 to R223) -/

theorem rotateA_eq (op : RotOp) (s : State) :
    rotateA op s =
      .next { s with
        a := BitVec.ofNat 8 (rotNat op s.a.toNat s.flags.c.toNat).1
        f := flagByte false false false (rotNat op s.a.toNat s.flags.c.toNat).2
        instClocks := 4 } := by
  rw [rotateA, complete, rotResult_eq, State.setFlags, Flags.toByte_eq_flagByte, rotAFlags]

/-- Settles O34: the four forms are one rotation of A, each at its operation, with flags that never look at the result. -/
theorem accumulatorRotates : Obligations.AccumulatorRotates :=
  fun s => ⟨⟨encodes_of_primary_op0 rfl, rotateA_eq .rlc s⟩, ⟨encodes_of_primary_op0 rfl, rotateA_eq .rrc s⟩,
    ⟨encodes_of_primary_op0 rfl, rotateA_eq .rl s⟩, ⟨encodes_of_primary_op0 rfl, rotateA_eq .rr s⟩⟩

/-! ## The CB rotates and shifts (R224 to R232) -/

/-- The rotation stays a byte, so Z, which the model takes from the byte, is that of the number. -/
theorem rotateTarget_eq (op : RotOp) (t : Target) (s : State) :
    rotateTarget op t s =
      .next { targetPut s (BitVec.ofNat 8 (rotNat op (targetValue s t).toNat s.flags.c.toNat).1) t with
        f := flagByte (decide ((rotNat op (targetValue s t).toNat s.flags.c.toNat).1 = 0)) false false
          (rotNat op (targetValue s t).toNat s.flags.c.toNat).2
        instClocks := modifyCost t } := by
  have hlt := rotNat_fst_lt op (targetValue s t).isLt s.flags.c.toNat_lt
  rw [rotateTarget, complete, putTarget_getTarget, getTarget_fst, rotResult_eq, State.setFlags, Flags.toByte_eq_flagByte,
    rotFlags]
  simp only [ofNat_eq_zero_iff, Nat.mod_eq_of_lt hlt]

/-- Settles O35: a register and the byte at HL are one target, rotated by the arithmetic of its operation. -/
theorem cbRotatesAndShifts : Obligations.CbRotatesAndShifts :=
  fun op t s => ⟨encodes_rotate op t, (exec_rotate op t s).trans (rotateTarget_eq op t s)⟩

/-! ## BIT, RES and SET (R233 to R235) -/

theorem bitTarget_eq (b : Fin 8) (t : Target) (s : State) :
    bitTarget b t s =
      .next { (getTarget t s).2 with
        f := flagByte (!(targetValue s t).getLsbD b) false true s.flags.c
        instClocks := testCost t } := by
  rw [bitTarget, complete, getTarget_fst, State.setFlags, Flags.toByte_eq_flagByte, bitFlags]

theorem resTarget_eq (b : Fin 8) (t : Target) (s : State) :
    resTarget b t s =
      .next { targetPut s (targetValue s t &&& ~~~(1#8 <<< b.val)) t with instClocks := modifyCost t } := by
  rw [resTarget, complete, putTarget_getTarget, getTarget_fst]

theorem setTarget_eq (b : Fin 8) (t : Target) (s : State) :
    setTarget b t s =
      .next { targetPut s (targetValue s t ||| (1#8 <<< b.val)) t with instClocks := modifyCost t } := by
  rw [setTarget, complete, putTarget_getTarget, getTarget_fst]

theorem getLsbD_one_shiftLeft (b k : Fin 8) : (1#8 <<< b.val).getLsbD k = decide (k = b) := by
  rw [← BitVec.twoPow_eq, BitVec.getLsbD_twoPow, decide_eq_true b.isLt, Bool.true_and, decide_eq_decide, Fin.ext_iff]
  exact eq_comm

/-- RES's mask clears bit `b` and leaves the other bits. -/
theorem getLsbD_clearBit (v : Byte) (b k : Fin 8) :
    (v &&& ~~~(1#8 <<< b.val)).getLsbD k = if k = b then false else v.getLsbD k := by
  rw [BitVec.getLsbD_and, BitVec.getLsbD_not, getLsbD_one_shiftLeft, decide_eq_true k.isLt]
  split <;> simp [*]

/-- SET's mask sets bit `b` and leaves the other bits. -/
theorem getLsbD_setBit (v : Byte) (b k : Fin 8) :
    (v ||| (1#8 <<< b.val)).getLsbD k = if k = b then true else v.getLsbD k := by
  rw [BitVec.getLsbD_or, getLsbD_one_shiftLeft]
  split <;> simp [*]

/-- Settles O36: each form is one operation on the target; the bytes RES and SET write are the target's under their masks. -/
theorem bitTestResetAndSet : Obligations.BitTestResetAndSet := by
  refine fun b t s => ⟨⟨encodes_bit b t, ?_⟩,
    ⟨encodes_res b t, _, fun k => getLsbD_clearBit _ b k, (exec_res b t s).trans (resTarget_eq b t s)⟩,
    ⟨encodes_set b t, _, fun k => getLsbD_setBit _ b k, (exec_set b t s).trans (setTarget_eq b t s)⟩⟩
  rw [exec_bit, bitTarget_eq]
  cases t <;> rfl

end Sys2Proof.Machine
end

section
/-! Settles the statement about the registers right after construction (70_reset_and_hazards.md R341, R342). -/

namespace Sys2Proof.Machine

/-- Of all the open parameters `BOOT_ROM` alone decides the registers at power on (R341, R342). -/
theorem getRegisters_powerOn (cfg : Config) :
    getRegisters (State.powerOn cfg) =
      getRegisters (State.powerOn { Config.default with bootRom := cfg.bootRom }) := rfl

/-- Settles O56: the registers are those of the default parameters with the same `BOOT_ROM`, one closed state for each of the
two boot paths. -/
theorem powerOnValues : Obligations.PowerOnValues := by
  constructor
  · intro cfg hbypassed
    rw [getRegisters_powerOn, hbypassed]
    decide
  · intro cfg hsimulated
    rw [getRegisters_powerOn, hsimulated]
    decide

end Sys2Proof.Machine
end

section
/-! Settles the statements about the whole encoding (30_encoding.md R100 to R115): the length of an instruction, that what decodes
was read from its encoding, that every encoding decodes, and the sample words. -/

namespace Sys2Proof.Machine

open Sys2Proof.Spec

/-! ## The cells of the stack and control instructions (R106, R107, R112) -/

theorem primary_push (p : StackPair) : primary (patternPair 0b11 (stackField p) 0 0b101) = .op0 (.push p) := by
  cases p <;> rfl

theorem primary_pop (p : StackPair) : primary (patternPair 0b11 (stackField p) 0 0b001) = .op0 (.pop p) := by
  cases p <;> rfl

theorem primary_callCond (cc : Cond) : primary (patternCond 0b11 0 (condField cc) 0b100) = .op2 (.callCond cc) := by
  cases cc <;> rfl

theorem primary_retCond (cc : Cond) : primary (patternCond 0b11 0 (condField cc) 0b000) = .op0 (.retCond cc) := by
  cases cc <;> rfl

theorem primary_rst (k : Fin 8) : primary (pattern 0b11 (BitVec.ofNat 3 k) 0b111) = .op0 (.rst k) := by
  fin_cases k <;> rfl

/-! ## What each cell of the primary map encodes (R111) -/

/-- The instruction of a form at a given immediate byte or word. -/
def formInstr : Form → Byte → Word → Instr
  | .op0 i, _, _ => i
  | .op1 f, n, _ => f n
  | .op2 f, _, nn => f nn

/-- The bytes that a form takes after its first (R100, R103). -/
def formOperands : Form → Byte → Word → List Byte
  | .op0 _, _, _ => []
  | .op1 _, n, _ => [n]
  | .op2 _, _, nn => [loByte nn, hiByte nn]

/-- Every instruction of the form is well formed, and its encoding is `op` and the form's operand bytes. -/
def FormEncodes (op : Byte) (c : Form) : Prop :=
  ∀ n nn, (formInstr c n nn).WellFormed ∧ encode (formInstr c n nn) = op :: formOperands c n nn

theorem encode_rotate (op : RotOp) (t : Target) :
    encode (.rotate op t) = [0xCB#8, pattern 0b00 (rotField op) (targetField t)] := by
  cases t with
  | atHL => cases op <;> rfl
  | reg r => cases op <;> cases r <;> rfl

theorem encode_bit (b : Fin 8) (t : Target) :
    encode (.bit b t) = [0xCB#8, pattern 0b01 (BitVec.ofNat 3 b) (targetField t)] := by
  cases t with
  | atHL => fin_cases b <;> rfl
  | reg r => fin_cases b <;> cases r <;> rfl

theorem encode_res (b : Fin 8) (t : Target) :
    encode (.res b t) = [0xCB#8, pattern 0b10 (BitVec.ofNat 3 b) (targetField t)] := by
  cases t with
  | atHL => fin_cases b <;> rfl
  | reg r => fin_cases b <;> cases r <;> rfl

theorem encode_set (b : Fin 8) (t : Target) :
    encode (.set b t) = [0xCB#8, pattern 0b11 (BitVec.ofNat 3 b) (targetField t)] := by
  cases t with
  | atHL => fin_cases b <;> rfl
  | reg r => fin_cases b <;> cases r <;> rfl

theorem targetField_targetOfField (z : BitVec 3) : targetField (targetOfField z) = z := by
  revert z
  decide

theorem rotField_rotOfField (y : BitVec 3) : rotField (rotOfField y) = y := by
  revert y
  decide

theorem ofNat_bitOfField (y : BitVec 3) : BitVec.ofNat 3 (bitOfField y) = y := by
  revert y
  decide

/-- A byte is its three fields (R110, R112). -/
theorem pattern_fields (cb : Byte) :
    pattern (cb.extractLsb' 6 2) (cb.extractLsb' 3 3) (cb.extractLsb' 0 3) = cb := by
  revert cb
  decide

/-- The second byte of a CB instruction, by its family and the fields of that family (R110). -/
theorem cbByFields {motive : Byte → Prop}
    (rotate : ∀ op t, motive (pattern 0b00 (rotField op) (targetField t)))
    (bit : ∀ (b : Fin 8) t, motive (pattern 0b01 (BitVec.ofNat 3 b) (targetField t)))
    (res : ∀ (b : Fin 8) t, motive (pattern 0b10 (BitVec.ofNat 3 b) (targetField t)))
    (set : ∀ (b : Fin 8) t, motive (pattern 0b11 (BitVec.ofNat 3 b) (targetField t))) (cb : Byte) : motive cb := by
  have hx (x : BitVec 2) : x = 0b00 ∨ x = 0b01 ∨ x = 0b10 ∨ x = 0b11 := by
    revert x
    decide
  rw [← pattern_fields cb, ← targetField_targetOfField (cb.extractLsb' 0 3)]
  rcases hx (cb.extractLsb' 6 2) with h | h | h | h <;> rw [h]
  · rw [← rotField_rotOfField (cb.extractLsb' 3 3)]
    exact rotate _ _
  · rw [← ofNat_bitOfField (cb.extractLsb' 3 3)]
    exact bit _ _
  · rw [← ofNat_bitOfField (cb.extractLsb' 3 3)]
    exact res _ _
  · rw [← ofNat_bitOfField (cb.extractLsb' 3 3)]
    exact set _ _

@[simp] theorem cbInstr_rotate (op : RotOp) (t : Target) :
    cbInstr (pattern 0b00 (rotField op) (targetField t)) = .rotate op t := by
  simp [cbInstr]

@[simp] theorem cbInstr_bit (b : Fin 8) (t : Target) :
    cbInstr (pattern 0b01 (BitVec.ofNat 3 b) (targetField t)) = .bit b t := by
  simp [cbInstr, bitOfField]

@[simp] theorem cbInstr_res (b : Fin 8) (t : Target) :
    cbInstr (pattern 0b10 (BitVec.ofNat 3 b) (targetField t)) = .res b t := by
  simp [cbInstr, bitOfField]

@[simp] theorem cbInstr_set (b : Fin 8) (t : Target) :
    cbInstr (pattern 0b11 (BitVec.ofNat 3 b) (targetField t)) = .set b t := by
  simp [cbInstr, bitOfField]

theorem encode_cbInstr (cb : Byte) : encode (cbInstr cb) = [0xCB#8, cb] := by
  cases cb using cbByFields with
  | rotate op t => rw [cbInstr_rotate, encode_rotate]
  | bit b t => rw [cbInstr_bit, encode_bit]
  | res b t => rw [cbInstr_res, encode_res]
  | set b t => rw [cbInstr_set, encode_set]

theorem cbInstr_wellFormed (cb : Byte) : (cbInstr cb).WellFormed := by
  revert cb
  decide

/-- The map cell by cell: the 256 first bytes, of which the prefix alone needs its second byte looked at. -/
theorem primary_encodes (op : Byte) : FormEncodes op (primary op) := by
  by_cases hcb : op = 0xCB#8
  · subst hcb
    exact fun cb _ => ⟨cbInstr_wellFormed cb, encode_cbInstr cb⟩
  · obtain ⟨k, hk, rfl⟩ : ∃ k < 256, op = BitVec.ofNat 8 k := ⟨op.toNat, op.isLt, by simp⟩
    have hne : k ≠ 203 := fun h => hcb (h ▸ rfl)
    obtain hlt | hgt := Nat.lt_or_gt_of_ne hne
    · interval_cases k <;> exact fun _ _ => ⟨rfl, rfl⟩
    · interval_cases k <;> exact fun _ _ => ⟨rfl, rfl⟩

/-- What decodes is an instruction of its first byte's form, at the operand bytes read. -/
theorem exists_form_of_decode {bytes rest : List Byte} {i : Instr} (h : decode bytes = .ok (i, rest)) :
    ∃ op n nn, i = formInstr (primary op) n nn ∧ bytes = op :: formOperands (primary op) n nn ++ rest := by
  cases bytes with
  | nil => cases h
  | cons op bytes =>
    cases hop : primary op with
    | op0 j =>
      simp only [decode, hop, Except.ok.injEq, Prod.mk.injEq] at h
      exact ⟨op, 0, 0, by simp [hop, formInstr, formOperands, h]⟩
    | op1 f =>
      rcases bytes with _ | ⟨n, bytes⟩ <;> simp only [decode, hop, Except.ok.injEq, Prod.mk.injEq, reduceCtorEq] at h
      exact ⟨op, n, 0, by simp [hop, formInstr, formOperands, h]⟩
    | op2 f =>
      rcases bytes with _ | ⟨lo, _ | ⟨hi, bytes⟩⟩ <;>
        simp only [decode, hop, Except.ok.injEq, Prod.mk.injEq, reduceCtorEq] at h
      exact ⟨op, 0, joinBytes hi lo, by simp [hop, formInstr, formOperands, loByte_joinBytes, hiByte_joinBytes, h]⟩

/-- Settles O2: what decodes comes from one cell of the primary map at the operands read, and each cell's instructions encode to
its first byte and those operands. -/
theorem encodeOfDecode : Obligations.EncodeOfDecode := by
  intro bytes i rest h
  obtain ⟨op, n, nn, rfl, rfl⟩ := exists_form_of_decode h
  obtain ⟨hwf, hbytes⟩ := primary_encodes op n nn
  exact ⟨hwf, by rw [hbytes]⟩

/-- What one list of bytes decodes to, its encoding decodes to: the two are the same bytes. -/
theorem encodes_encode {bytes : List Byte} {i : Instr} (h : Encodes bytes i) : Encodes (encode i) i := by
  have hbytes := (encodeOfDecode _ _ _ (h [])).2
  rw [List.append_nil, List.append_nil] at hbytes
  rwa [← hbytes]

theorem encodes_op0 {op : Byte} {i : Instr} (h : primary op = .op0 i) : Encodes (encode i) i :=
  encodes_encode (encodes_of_primary_op0 h)

theorem encodes_op1 {op : Byte} {f : Byte → Instr} (h : primary op = .op1 f) (n : Byte) : Encodes (encode (f n)) (f n) :=
  encodes_encode (encodes_of_primary_op1 h n)

theorem encodes_op2 {op : Byte} {f : Word → Instr} (h : primary op = .op2 f) (nn : Word) :
    Encodes (encode (f nn)) (f nn) :=
  encodes_encode (encodes_of_primary_op2 h nn)

/-- Every instruction but the bare prefix row stands in a cell of the primary map or is a CB instruction. -/
theorem encodes_encode_of_wellFormed {i : Instr} (h : i.WellFormed) : Encodes (encode i) i := by
  cases i using Instr.byView with
  | ldRegReg r src => exact encodes_op0 (primary_ldRegReg r src)
  | ldRegImm r n => exact encodes_op1 (primary_ldRegImm r) n
  | ldRegAtHL r => exact encodes_op0 (primary_ldRegAtHL r)
  | ldAtHLReg r => exact encodes_op0 (primary_ldAtHLReg r)
  | ldPairImm p nn => exact encodes_op2 (primary_ldPairImm p) nn
  | push p => exact encodes_op0 (primary_push p)
  | pop p => exact encodes_op0 (primary_pop p)
  | aluReg op t => exact encodes_op0 (primary_aluReg op t)
  | aluImm op n => exact encodes_op1 (primary_aluImm op) n
  | incReg r => exact encodes_op0 (primary_incReg r)
  | decReg r => exact encodes_op0 (primary_decReg r)
  | addHLPair p => exact encodes_op0 (primary_addHLPair p)
  | incPair p => exact encodes_op0 (primary_incPair p)
  | decPair p => exact encodes_op0 (primary_decPair p)
  | jpCond cc nn => exact encodes_op2 (primary_jpCond cc) nn
  | jrCond cc e => exact encodes_op1 (primary_jrCond cc) e
  | callCond cc nn => exact encodes_op2 (primary_callCond cc) nn
  | retCond cc => exact encodes_op0 (primary_retCond cc)
  | rst k => exact encodes_op0 (primary_rst k)
  | rotate op t => exact encodes_encode (encodes_rotate op t)
  | bit k t => exact encodes_encode (encodes_bit k t)
  | res k t => exact encodes_encode (encodes_res k t)
  | set k t => exact encodes_encode (encodes_set k t)
  | nop => exact encodes_op0 (op := 0x00#8) rfl
  | ldAtBCA => exact encodes_op0 (op := 0x02#8) rfl
  | rlca => exact encodes_op0 (op := 0x07#8) rfl
  | ldAtNnSP nn => exact encodes_op2 (op := 0x08#8) rfl nn
  | ldAAtBC => exact encodes_op0 (op := 0x0A#8) rfl
  | rrca => exact encodes_op0 (op := 0x0F#8) rfl
  | stop n => exact encodes_op1 (op := 0x10#8) rfl n
  | ldAtDEA => exact encodes_op0 (op := 0x12#8) rfl
  | rla => exact encodes_op0 (op := 0x17#8) rfl
  | jrE e => exact encodes_op1 (op := 0x18#8) rfl e
  | ldAAtDE => exact encodes_op0 (op := 0x1A#8) rfl
  | rra => exact encodes_op0 (op := 0x1F#8) rfl
  | ldAtHLIncA => exact encodes_op0 (op := 0x22#8) rfl
  | daa => exact encodes_op0 (op := 0x27#8) rfl
  | ldAAtHLInc => exact encodes_op0 (op := 0x2A#8) rfl
  | cpl => exact encodes_op0 (op := 0x2F#8) rfl
  | ldAtHLDecA => exact encodes_op0 (op := 0x32#8) rfl
  | incAtHL => exact encodes_op0 (op := 0x34#8) rfl
  | decAtHL => exact encodes_op0 (op := 0x35#8) rfl
  | ldAtHLN n => exact encodes_op1 (op := 0x36#8) rfl n
  | scf => exact encodes_op0 (op := 0x37#8) rfl
  | ldAAtHLDec => exact encodes_op0 (op := 0x3A#8) rfl
  | ccf => exact encodes_op0 (op := 0x3F#8) rfl
  | halt => exact encodes_op0 (op := 0x76#8) rfl
  | jpNn nn => exact encodes_op2 (op := 0xC3#8) rfl nn
  | ret => exact encodes_op0 (op := 0xC9#8) rfl
  | prefixCB cb => exact absurd h Bool.false_ne_true
  | callNn nn => exact encodes_op2 (op := 0xCD#8) rfl nn
  | invalidD3 => exact encodes_op0 (op := 0xD3#8) rfl
  | reti => exact encodes_op0 (op := 0xD9#8) rfl
  | invalidDB => exact encodes_op0 (op := 0xDB#8) rfl
  | invalidDD => exact encodes_op0 (op := 0xDD#8) rfl
  | ldhAtNA n => exact encodes_op1 (op := 0xE0#8) rfl n
  | ldAtCA => exact encodes_op0 (op := 0xE2#8) rfl
  | invalidE3 => exact encodes_op0 (op := 0xE3#8) rfl
  | invalidE4 => exact encodes_op0 (op := 0xE4#8) rfl
  | addSPE e => exact encodes_op1 (op := 0xE8#8) rfl e
  | jpHL => exact encodes_op0 (op := 0xE9#8) rfl
  | ldAtNnA nn => exact encodes_op2 (op := 0xEA#8) rfl nn
  | invalidEB => exact encodes_op0 (op := 0xEB#8) rfl
  | invalidEC => exact encodes_op0 (op := 0xEC#8) rfl
  | invalidED => exact encodes_op0 (op := 0xED#8) rfl
  | ldhAAtN n => exact encodes_op1 (op := 0xF0#8) rfl n
  | ldAAtC => exact encodes_op0 (op := 0xF2#8) rfl
  | di => exact encodes_op0 (op := 0xF3#8) rfl
  | invalidF4 => exact encodes_op0 (op := 0xF4#8) rfl
  | ldHLSPE e => exact encodes_op1 (op := 0xF8#8) rfl e
  | ldSPHL => exact encodes_op0 (op := 0xF9#8) rfl
  | ldAAtNn nn => exact encodes_op2 (op := 0xFA#8) rfl nn
  | ei => exact encodes_op0 (op := 0xFB#8) rfl
  | invalidFC => exact encodes_op0 (op := 0xFC#8) rfl
  | invalidFD => exact encodes_op0 (op := 0xFD#8) rfl

/-- Settles O1: every well-formed instruction has bytes that decode to it, and those are its encoding. -/
theorem decodeOfEncode : Obligations.DecodeOfEncode :=
  fun _ tail h => encodes_encode_of_wellFormed h tail

/-! ## Lengths and samples (R100) -/

theorem primary_length (op : Byte) : (primary op).length = formatLength op := by
  revert op
  decide

/-- A list shorter than its form is refused, and any other decodes to one instruction of that form (R100). -/
theorem decode_by_length (op : Byte) (rest : List Byte) :
    (rest.length + 1 < (primary op).length → decode (op :: rest) = .error .truncated) ∧
    ((primary op).length ≤ rest.length + 1 → ∃ i, decode (op :: rest) = .ok (i, rest.drop ((primary op).length - 1))) := by
  cases hop : primary op with
  | op0 i => simp [decode, hop, Form.length]
  | op1 f => rcases rest with _ | ⟨n, rest⟩ <;> simp [decode, hop, Form.length]
  | op2 f => rcases rest with _ | ⟨lo, _ | ⟨hi, rest⟩⟩ <;> simp [decode, hop, Form.length]

theorem formLength_bounds (c : Form) : 1 ≤ c.length ∧ c.length ≤ 3 := by
  cases c <;> simp [Form.length]

/-- Settles O3: R100's table gives each first byte the length of its cell in the primary map, and the decoder takes as many bytes
as the cell's form asks for. -/
theorem lengthFromFirstByte : Obligations.LengthFromFirstByte := by
  refine ⟨rfl, fun op rest => ?_⟩
  rw [← primary_length]
  exact ⟨(formLength_bounds _).1, (formLength_bounds _).2, decode_by_length op rest⟩

/-- Settles O4: each word is looked up in the primary map, and 0x37 and 0x7E in the CB table. -/
theorem sampleWordsDecode : Obligations.SampleWordsDecode :=
  ⟨rfl, rfl, rfl, rfl, rfl, rfl, rfl, rfl, rfl, rfl, rfl, rfl, rfl, rfl⟩

end Sys2Proof.Machine
end

section
/-! What one instruction can do, said once: `footprint` lists what the rules let an instruction write, `Effect` says that two
states differ in nothing else, and `exec_answers` that every instruction answers a next state within its footprint. The frames of
all instructions (O11 to O14) and their costs (O15) are read off it. -/

namespace Sys2Proof.Machine

open Sys2Proof.Spec

/-! ## Footprints and effects -/

/-- What may be written: addresses, 8-bit registers, SP, F, and the parts of the execution state. -/
structure Footprint where
  addrs : List Word
  reg : Reg8 → Prop
  sp : Prop
  flags : Prop
  ime : Prop
  ei : Prop
  haltBug : Prop
  halted : Prop
  fault : Prop

/-- What the rules let an instruction write, run from `s` (R35, R36, R41 to R46). -/
def footprint (i : Instr) (s : State) : Footprint where
  addrs := storedAddresses i s
  reg := Writes i
  sp := WritesSP i
  flags := WritesFlags i
  ime := i = .di ∨ i = .reti
  ei := i = .ei
  haltBug := i = .halt
  halted := i = .halt ∨ ∃ n, i = .stop n
  fault := RaisesFault i s

/-- `t` has what `s` has at every address but these, in-block registers included, and a store as canonical. -/
structure BusEffect (addrs : List Word) (s t : State) : Prop where
  peek : ∀ x ∉ addrs, t.peek x = s.peek x
  divcnt : 0xFF04#16 ∉ addrs → t.divcnt = s.divcnt
  tima : 0xFF05#16 ∉ addrs → t.tima = s.tima
  tma : 0xFF06#16 ∉ addrs → t.tma = s.tma
  tac : 0xFF07#16 ∉ addrs → t.tac = s.tac
  ifr : 0xFF0F#16 ∉ addrs → t.ifr = s.ifr
  ie : 0xFFFF#16 ∉ addrs → t.ie = s.ie
  wf : s.mem.wf = true → t.mem.wf = true

/-- `t` differs from `s` within the footprint `w`, in PC, in the count and in what the bus has seen, and in nothing else; and F's
low nibble stays zero (R33). -/
structure Effect (w : Footprint) (s t : State) : Prop where
  bus : BusEffect w.addrs s t
  reg : ∀ r, ¬w.reg r → t.reg r = s.reg r
  sp : ¬w.sp → t.sp = s.sp
  flags : ¬w.flags → t.f = s.f
  lowF : s.f &&& 0x0F#8 = 0x00#8 → t.f &&& 0x0F#8 = 0x00#8
  ime : ¬w.ime → t.ime = s.ime
  ei : ¬w.ei → t.eiImeEnable = s.eiImeEnable
  haltBug : ¬w.haltBug → t.haltBug = s.haltBug
  halted : ¬w.halted → t.isHalted = s.isHalted
  fault : ¬w.fault → t.fault = s.fault
  kept : t.opAddr = s.opAddr ∧ t.requests = s.requests ∧ t.bpAddr = s.bpAddr ∧ t.bpEnabled = s.bpEnabled ∧ t.cfg = s.cfg

/-! ## The effect of each operation -/

section
variable {w : Footprint} {s t u : State}

theorem BusEffect.of_same {addrs : List Word} (h : t.divcnt = s.divcnt ∧ t.tima = s.tima ∧ t.tma = s.tma ∧ t.tac = s.tac ∧
    t.ifr = s.ifr ∧ t.ie = s.ie ∧ t.mem = s.mem) : BusEffect addrs s t := by
  have hpeek (x : Word) := peek_congr x h
  obtain ⟨hdiv, htima, htma, htac, hifr, hie, hmem⟩ := h
  exact ⟨fun x _ => hpeek x, fun _ => hdiv, fun _ => htima, fun _ => htma, fun _ => htac, fun _ => hifr, fun _ => hie,
    fun hwf => hmem ▸ hwf⟩

theorem BusEffect.memWrite {addrs : List Word} {addr : Word} (h : addr ∈ addrs) (v : Byte) (s : State) :
    BusEffect addrs s (memWrite addr v s) := by
  have hne {x : Word} (hx : x ∉ addrs) : addr ≠ x := fun e => hx (e ▸ h)
  obtain ⟨hdiv, htima, htma, htac, hifr, hie⟩ := memWrite_io (addr := addr) v s
  exact ⟨fun x hx => peek_memWrite_other v s (hne hx).symm, fun hx => hdiv (hne hx), fun hx => htima (hne hx),
    fun hx => htma (hne hx), fun hx => htac (hne hx), fun hx => hifr (hne hx), fun hx => hie (hne hx), memWrite_wf addr v⟩

theorem BusEffect.trans {addrs : List Word} (h : BusEffect addrs s t) (k : BusEffect addrs t u) : BusEffect addrs s u :=
  ⟨fun x hx => (k.peek x hx).trans (h.peek x hx), fun hx => (k.divcnt hx).trans (h.divcnt hx),
    fun hx => (k.tima hx).trans (h.tima hx), fun hx => (k.tma hx).trans (h.tma hx), fun hx => (k.tac hx).trans (h.tac hx),
    fun hx => (k.ifr hx).trans (h.ifr hx), fun hx => (k.ie hx).trans (h.ie hx), fun hwf => k.wf (h.wf hwf)⟩

theorem Effect.trans (h : Effect w s t) (k : Effect w t u) : Effect w s u where
  bus := h.bus.trans k.bus
  reg r hr := (k.reg r hr).trans (h.reg r hr)
  sp hw := (k.sp hw).trans (h.sp hw)
  flags hw := (k.flags hw).trans (h.flags hw)
  lowF hf := k.lowF (h.lowF hf)
  ime hw := (k.ime hw).trans (h.ime hw)
  ei hw := (k.ei hw).trans (h.ei hw)
  haltBug hw := (k.haltBug hw).trans (h.haltBug hw)
  halted hw := (k.halted hw).trans (h.halted hw)
  fault hw := (k.fault hw).trans (h.fault hw)
  kept := by
    obtain ⟨h1, h2, h3, h4, h5⟩ := h.kept
    obtain ⟨k1, k2, k3, k4, k5⟩ := k.kept
    exact ⟨k1.trans h1, k2.trans h2, k3.trans h3, k4.trans h4, k5.trans h5⟩

/-- A change of the registers and of PC and the count alone. -/
theorem Effect.of_registers (hbus : t.divcnt = s.divcnt ∧ t.tima = s.tima ∧ t.tma = s.tma ∧ t.tac = s.tac ∧
      t.ifr = s.ifr ∧ t.ie = s.ie ∧ t.mem = s.mem)
    (hreg : ∀ r, ¬w.reg r → t.reg r = s.reg r) (hsp : ¬w.sp → t.sp = s.sp) (hflags : ¬w.flags → t.f = s.f)
    (hlow : s.f &&& 0x0F#8 = 0x00#8 → t.f &&& 0x0F#8 = 0x00#8)
    (hctl : t.ime = s.ime ∧ t.eiImeEnable = s.eiImeEnable ∧ t.haltBug = s.haltBug ∧ t.isHalted = s.isHalted ∧
      t.fault = s.fault ∧ t.opAddr = s.opAddr ∧ t.requests = s.requests ∧ t.bpAddr = s.bpAddr ∧ t.bpEnabled = s.bpEnabled ∧
      t.cfg = s.cfg) : Effect w s t := by
  obtain ⟨hime, hei, hbug, hhalt, hfault, hkept⟩ := hctl
  exact ⟨.of_same hbus, hreg, hsp, hflags, hlow, fun _ => hime, fun _ => hei, fun _ => hbug, fun _ => hhalt, fun _ => hfault,
    hkept⟩

theorem Effect.setReg {r : Reg8} (h : w.reg r) (v : Byte) (s : State) : Effect w s (s.setReg r v) :=
  .of_registers (by simp) (fun _ hq => s.reg_setReg_of_ne v fun e => hq (e ▸ h)) (by simp) (by simp) (by simp) (by simp)

theorem Effect.setFlags (h : w.flags) (g : Flags) (s : State) : Effect w s (s.setFlags g) :=
  .of_registers (by simp) (by simp) (by simp) (absurd h) (fun _ => g.toByte_low) (by simp)

theorem Effect.withPC (x : Word) (s : State) : Effect w s { s with pc := x } :=
  .of_registers (by simp) (fun r _ => by cases r <;> rfl) (by simp) (by simp) (by simp) (by simp)

theorem Effect.withClocks (n : Nat) (s : State) : Effect w s { s with instClocks := n } :=
  .of_registers (by simp) (fun r _ => by cases r <;> rfl) (by simp) (by simp) (by simp) (by simp)

theorem Effect.withSP (h : w.sp) (x : Word) (s : State) : Effect w s { s with sp := x } :=
  .of_registers (by simp) (fun r _ => by cases r <;> rfl) (absurd h) (by simp) (by simp) (by simp)

theorem Effect.refl (s : State) : Effect w s s := Effect.withPC s.pc s

theorem Effect.setPair {p : Pair} (h : ∀ r ∈ halves p, w.reg r) (hsp : p = .sp → w.sp) (v : Word) (s : State) :
    Effect w s (s.setPair p v) := by
  cases p with
  | bc => exact (Effect.setReg (h .b (by decide)) (hiByte v) s).trans (.setReg (h .c (by decide)) (loByte v) _)
  | de => exact (Effect.setReg (h .d (by decide)) (hiByte v) s).trans (.setReg (h .e (by decide)) (loByte v) _)
  | hl => exact (Effect.setReg (h .h (by decide)) (hiByte v) s).trans (.setReg (h .l (by decide)) (loByte v) _)
  | sp => exact .withSP (hsp rfl) v s

theorem Effect.setStackPair {p : StackPair} (h : ∀ r ∈ poppedHalves p, w.reg r) (hf : p = .af → w.flags) (v : Word)
    (s : State) : Effect w s (s.setStackPair p v) := by
  cases p
  case af =>
    exact (Effect.setReg (h .a (by decide)) (hiByte v) s).trans (.of_registers (by simp) (fun r _ => by cases r <;> rfl) (by simp)
      (absurd (hf rfl)) (fun _ => maskF_low (loByte v)) (by simp))
  case bc => exact Effect.setPair (p := .bc) h (nomatch ·) v s
  case de => exact Effect.setPair (p := .de) h (nomatch ·) v s
  case hl => exact Effect.setPair (p := .hl) h (nomatch ·) v s

theorem Effect.memRead (addr : Word) (s : State) : Effect w s (memRead addr s).2 :=
  .of_registers (by simp) (by simp) (by simp) (by simp) (by simp) (by simp)

theorem Effect.memWrite {addr : Word} (h : addr ∈ w.addrs) (v : Byte) (s : State) : Effect w s (memWrite addr v s) where
  bus := .memWrite h v s
  reg := by simp
  sp := by simp
  flags := by simp
  lowF := by simp
  ime := by simp
  ei := by simp
  haltBug := by simp
  halted := by simp
  fault := by simp
  kept := by simp

theorem Effect.push16 (h1 : s.sp - 1#16 ∈ w.addrs) (h2 : s.sp - 2#16 ∈ w.addrs) (hsp : w.sp) (v : Word) :
    Effect w s (push16 v s) := by
  rw [push16_eq]
  exact ((Effect.memWrite h1 _ s).trans (.memWrite h2 _ _)).trans (.withSP hsp _ _)

theorem Effect.pop16 (hsp : w.sp) (s : State) : Effect w s (pop16 s).2 := by
  rw [pop16_eq]
  exact ((Effect.memRead _ s).trans (.memRead _ _)).trans (.withSP hsp _ _)

theorem Effect.popPC (hsp : w.sp) (s : State) : Effect w s (popPC s) :=
  (Effect.pop16 hsp s).trans (.withPC _ _)

theorem Effect.call (h1 : s.sp - 1#16 ∈ w.addrs) (h2 : s.sp - 2#16 ∈ w.addrs) (hsp : w.sp) (target : Word) :
    Effect w s (call target s) :=
  (Effect.push16 h1 h2 hsp _).trans (.withPC _ _)

theorem Effect.withIme (h : w.ime) (b : Bool) (s : State) : Effect w s { s with ime := b } :=
  { Effect.refl s with ime := absurd h, bus := .of_same (by simp) }

theorem Effect.withEi (h : w.ei) (b : Bool) (s : State) : Effect w s { s with eiImeEnable := b } :=
  { Effect.refl s with ei := absurd h, bus := .of_same (by simp) }

theorem Effect.withHaltBug (h : w.haltBug) (b : Bool) (s : State) : Effect w s { s with haltBug := b } :=
  { Effect.refl s with haltBug := absurd h, bus := .of_same (by simp) }

theorem Effect.withHalted (h : w.halted) (b : Bool) (s : State) : Effect w s { s with isHalted := b } :=
  { Effect.refl s with halted := absurd h, bus := .of_same (by simp) }

theorem Effect.withFault (h : w.fault) (x : Option FaultRecord) (s : State) : Effect w s { s with fault := x } :=
  { Effect.refl s with fault := absurd h, bus := .of_same (by simp) }

theorem Effect.get (t : Target) (s : State) : Effect w s (getTarget t s).2 := by
  cases t with
  | reg r => exact .refl s
  | atHL => exact .memRead _ s

theorem Effect.operand (o : Operand8) (s : State) : Effect w s (readOperand o s).2 := by
  cases o with
  | reg r => exact .refl s
  | atHL => exact .memRead _ s
  | imm n => exact .refl s

/-- The footprint allows a write to the target: to the register, or to the byte at HL. -/
def Footprint.MayPut (w : Footprint) (s : State) : Target → Prop
  | .reg r => w.reg r
  | .atHL => s.hl ∈ w.addrs

/-- `Get(r)`, then `Put(r, v)` (R224). -/
theorem Effect.put {t : Target} (h : w.MayPut s t) (v : Byte) : Effect w s (putTarget t v (getTarget t s).2) := by
  rw [putTarget_getTarget]
  cases t with
  | reg r => exact .setReg h v s
  | atHL => exact (Effect.memRead _ s).trans (.memWrite h v _)

/-! ## The shared forms of the instructions -/

/-- The result is a next state within the footprint, and its cost, unless a fault may be raised, is one that R288 allows. -/
def Answers (w : Footprint) (s : State) (r : Result) : Prop :=
  ∃ t, r = .next t ∧ Effect w s t ∧ (¬w.fault → t.instClocks % 4 = 0 ∧ 4 ≤ t.instClocks ∧ t.instClocks ≤ 24)

theorem Answers.complete {cost : Nat} (h : Effect w s u) (hc : cost % 4 = 0 ∧ 4 ≤ cost ∧ cost ≤ 24) :
    Answers w s (complete cost u) :=
  ⟨_, rfl, h.trans (.withClocks cost u), fun _ => hc⟩

theorem Answers.raiseFault (h : w.fault) (record : FaultRecord) : Answers w s (raiseFault record s) :=
  ⟨_, rfl, .withFault h _ s, absurd h⟩

theorem loadRegAt_answers {dst : Reg8} (h : w.reg dst) (addr : Word) : Answers w s (loadRegAt dst addr s) :=
  .complete ((Effect.memRead addr s).trans (.setReg h _ _)) (by decide)

theorem loadAStep_answers (ha : w.reg .a) (hh : w.reg .h) (hl : w.reg .l) (step : Word) : Answers w s (loadAStep step s) :=
  .complete (((Effect.memRead s.hl s).trans (.setReg ha _ _)).trans (.setPair (p := .hl) (by simp [halves, hh, hl]) nofun _ _))
    (by decide)

theorem storeAStep_answers (h : s.hl ∈ w.addrs) (hh : w.reg .h) (hl : w.reg .l) (step : Word) :
    Answers w s (storeAStep step s) :=
  .complete ((Effect.memWrite h s.a s).trans (.setPair (p := .hl) (by simp [halves, hh, hl]) nofun _ _)) (by decide)

theorem storeAt_answers {addr : Word} (h : addr ∈ w.addrs) (v : Byte) : Answers w s (storeAt addr v s) :=
  .complete (.memWrite h v s) (by decide)

/-- CP writes back the A that was there (R189). -/
theorem aluOnA_answers {op : AluOp} (ha : op ≠ .cp → w.reg .a) (hf : w.flags) (o : Operand8) : Answers w s (aluOnA op o s) := by
  have hread := Effect.operand (w := w) o s
  have hcost : operandCost o % 4 = 0 ∧ 4 ≤ operandCost o ∧ operandCost o ≤ 24 := by
    cases o <;> simp [operandCost]
  have hset : Effect w s { (readOperand o s).2 with a := (aluResult op s.a (readOperand o s).1 s.flags.c).1 } := by
    by_cases hop : op = .cp
    · subst hop
      have hkeep : (readOperand o s).2.a = s.a := by cases o <;> simp [readOperand]
      show Effect w s { (readOperand o s).2 with a := s.a }
      rwa [← hkeep]
    · exact hread.trans (.setReg (ha hop) _ _)
  exact .complete (hset.trans (.setFlags hf _ _)) hcost

theorem stepCost_ok (t : Target) : stepCost t % 4 = 0 ∧ 4 ≤ stepCost t ∧ stepCost t ≤ 24 := by
  cases t <;> simp [stepCost]

theorem modifyCost_ok (t : Target) : modifyCost t % 4 = 0 ∧ 4 ≤ modifyCost t ∧ modifyCost t ≤ 24 := by
  cases t <;> simp [modifyCost]

theorem testCost_ok (t : Target) : testCost t % 4 = 0 ∧ 4 ≤ testCost t ∧ testCost t ≤ 24 := by
  cases t <;> simp [testCost]

theorem incTarget_answers {t : Target} (h : w.MayPut s t) (hf : w.flags) : Answers w s (incTarget t s) :=
  .complete ((Effect.put h _).trans (.setFlags hf _ _)) (stepCost_ok t)

theorem decTarget_answers {t : Target} (h : w.MayPut s t) (hf : w.flags) : Answers w s (decTarget t s) :=
  .complete ((Effect.put h _).trans (.setFlags hf _ _)) (stepCost_ok t)

theorem rotateTarget_answers {t : Target} (h : w.MayPut s t) (hf : w.flags) (op : RotOp) :
    Answers w s (rotateTarget op t s) :=
  .complete ((Effect.put h _).trans (.setFlags hf _ _)) (modifyCost_ok t)

theorem bitTarget_answers (hf : w.flags) (b : Fin 8) (t : Target) : Answers w s (bitTarget b t s) :=
  .complete ((Effect.get t s).trans (.setFlags hf _ _)) (testCost_ok t)

theorem resTarget_answers {t : Target} (h : w.MayPut s t) (b : Fin 8) : Answers w s (resTarget b t s) :=
  .complete (Effect.put h _) (modifyCost_ok t)

theorem setTarget_answers {t : Target} (h : w.MayPut s t) (b : Fin 8) : Answers w s (setTarget b t s) :=
  .complete (Effect.put h _) (modifyCost_ok t)

/-- An operation on A that writes A and F (R194, R195, R220 to R223). -/
theorem writeAF_answers (ha : w.reg .a) (hf : w.flags) (v : Byte) (g : Flags) :
    Answers w s (complete 4 ({ s with a := v }.setFlags g)) :=
  .complete ((Effect.setReg ha v s).trans (.setFlags hf g _)) (by decide)

theorem addHL_answers (hh : w.reg .h) (hl : w.reg .l) (hf : w.flags) (p : Pair) : Answers w s (addHL p s) :=
  .complete ((Effect.setPair (p := .hl) (by simp [halves, hh, hl]) nofun _ s).trans (.setFlags hf _ _)) (by decide)

theorem jumpCond_answers (cc : Cond) (nn : Word) : Answers w s (jumpCond cc nn s) := by
  unfold jumpCond
  split
  · exact .complete (.withPC nn s) (by decide)
  · exact .complete (.refl s) (by decide)

theorem jumpRelCond_answers (cc : Cond) (e : Byte) : Answers w s (jumpRelCond cc e s) := by
  unfold jumpRelCond
  split
  · exact .complete (.withPC _ s) (by decide)
  · exact .complete (.refl s) (by decide)

/-- A call stores only where it is taken. -/
theorem callCond_answers {cc : Cond} (h : condHolds cc s = true → w.addrs = [s.sp - 1#16, s.sp - 2#16]) (hsp : w.sp)
    (nn : Word) : Answers w s (callCond cc nn s) := by
  unfold callCond
  split
  next hcc => exact .complete (.call (by simp [h hcc]) (by simp [h hcc]) hsp nn) (by decide)
  next => exact .complete (.refl s) (by decide)

theorem returnCond_answers (hsp : w.sp) (cc : Cond) : Answers w s (returnCond cc s) := by
  unfold returnCond
  split
  · exact .complete (.popPC hsp s) (by decide)
  · exact .complete (.refl s) (by decide)

theorem haltCpu_answers (hbug : w.haltBug) (hhalt : w.halted) : Answers w s (haltCpu s) := by
  unfold haltCpu
  split
  · exact .complete (.withHaltBug hbug true s) (by decide)
  · exact .complete (.withHalted hhalt true s) (by decide)

theorem stopCpu_answers (hhalt : w.halted) (hfault : s.cfg.stopMode = .refuse → w.fault) : Answers w s (stopCpu s) := by
  unfold stopCpu
  split
  next => exact .complete (.withHalted hhalt true s) (by decide)
  next hmode => exact .raiseFault (hfault hmode) _

theorem invalidOpcode_answers {op : Byte} {i : Instr} (h : (op, i) ∈ invalidBytes) :
    Answers (footprint i s) s (invalidOpcode op s) :=
  .raiseFault (w := footprint i s) (.inl ⟨op, h⟩) _

end

/-! ## Every instruction (R288) -/

/-- A rotate or shift writes the register it names, or the byte at HL; so do RES and SET below. -/
theorem mayPut_rotate (op : RotOp) (t : Target) (s : State) : (footprint (.rotate op t) s).MayPut s t := by
  cases t with
  | reg r => exact Writes.rotate op r
  | atHL => cases op <;> exact List.mem_singleton_self s.hl

theorem mayPut_res (b : Fin 8) (t : Target) (s : State) : (footprint (.res b t) s).MayPut s t := by
  cases t with
  | reg r => exact Writes.res b r
  | atHL => fin_cases b <;> exact List.mem_singleton_self s.hl

theorem mayPut_set (b : Fin 8) (t : Target) (s : State) : (footprint (.set b t) s).MayPut s t := by
  cases t with
  | reg r => exact Writes.set b r
  | atHL => fin_cases b <;> exact List.mem_singleton_self s.hl

theorem pattern_top_toNat (x : BitVec 2) (y z : BitVec 3) : (pattern x y z).toNat / 64 = x.toNat := by
  revert x y z
  decide

theorem operateCB_answers (cb : Byte) (s : State) : Answers (footprint (.prefixCB cb) s) s (operateCB cb s) := by
  have hwrites (r : Reg8) (h : Writes (cbInstr cb) r) : (footprint (.prefixCB cb) s).reg r := Writes.prefixCB cb r h
  have hflags (h : cb.toNat / 64 ≤ 1) : (footprint (.prefixCB cb) s).flags := WritesFlags.prefixCB cb h
  cases cb using cbByFields with
  | rotate op t =>
    have hput : (footprint (.prefixCB (pattern 0b00 (rotField op) (targetField t))) s).MayPut s t := by
      cases t with
      | reg r => exact hwrites r (by rw [cbInstr_rotate]; exact .rotate op r)
      | atHL => cases op <;> exact List.mem_singleton_self s.hl
    have h := rotateTarget_answers hput (hflags (by rw [pattern_top_toNat]; decide)) op
    simpa [operateCB] using h
  | bit b t =>
    have h := bitTarget_answers (s := s) (hflags (by rw [pattern_top_toNat]; decide)) b t
    simpa [operateCB, bitOfField] using h
  | res b t =>
    have hput : (footprint (.prefixCB (pattern 0b10 (BitVec.ofNat 3 b) (targetField t))) s).MayPut s t := by
      cases t with
      | reg r => exact hwrites r (by rw [cbInstr_res]; exact .res b r)
      | atHL => fin_cases b <;> exact List.mem_singleton_self s.hl
    have h := resTarget_answers hput b
    simpa [operateCB, bitOfField] using h
  | set b t =>
    have hput : (footprint (.prefixCB (pattern 0b11 (BitVec.ofNat 3 b) (targetField t))) s).MayPut s t := by
      cases t with
      | reg r => exact hwrites r (by rw [cbInstr_set]; exact .set b r)
      | atHL => fin_cases b <;> exact List.mem_singleton_self s.hl
    have h := setTarget_answers hput b
    simpa [operateCB, bitOfField] using h

theorem storedAddresses_push (p : StackPair) (s : State) :
    storedAddresses (.push p) s = [s.sp - 1#16, s.sp - 2#16] := by
  cases p <;> rfl

theorem storedAddresses_rst (k : Fin 8) (s : State) : storedAddresses (.rst k) s = [s.sp - 1#16, s.sp - 2#16] := by
  fin_cases k <;> rfl

theorem storedAddresses_callCond (cc : Cond) (nn : Word) (s : State) :
    storedAddresses (.callCond cc nn) s = if condHolds cc s then [s.sp - 1#16, s.sp - 2#16] else [] := by
  cases cc <;> rfl

theorem hl_mem_storedAddresses_ldAtHLReg (r : Reg8) (s : State) : s.hl ∈ storedAddresses (.ldAtHLReg r) s := by
  cases r <;> exact List.mem_singleton_self s.hl

/-- The two bytes below SP. -/
theorem mem_stack_addrs (s : State) :
    s.sp - 1#16 ∈ [s.sp - 1#16, s.sp - 2#16] ∧ s.sp - 2#16 ∈ [s.sp - 1#16, s.sp - 2#16] := by
  simp

theorem push_answers (p : StackPair) (s : State) : Answers (footprint (.push p) s) s (pushPair p s) := by
  obtain ⟨h1, h2⟩ := mem_stack_addrs s
  rw [← storedAddresses_push p s] at h1 h2
  exact .complete (.push16 h1 h2 (WritesSP.push p) _) (by decide)

theorem rst_answers (k : Fin 8) (s : State) : Answers (footprint (.rst k) s) s (restart k s) := by
  obtain ⟨h1, h2⟩ := mem_stack_addrs s
  rw [← storedAddresses_rst k s] at h1 h2
  exact .complete (.call h1 h2 (WritesSP.rst k) _) (by decide)

theorem pop_answers (p : StackPair) (s : State) : Answers (footprint (.pop p) s) s (popPair p s) :=
  .complete ((Effect.pop16 (WritesSP.pop p) s).trans (.setStackPair (Writes.pop p) (fun h => h ▸ WritesFlags.popAF) _ _))
    (by decide)

/-- Every instruction answers a next state, within its footprint and at a cost of 4 to 24 ticks. -/
theorem exec_answers (i : Instr) (s : State) : Answers (footprint i s) s (exec i s) := by
  cases i using Instr.byView with
  | ldRegReg r src => exact exec_ldRegReg r src s ▸ .complete (.setReg (Writes.ldRegReg r src) _ s) (by decide)
  | ldRegImm r n => exact exec_ldRegImm r n s ▸ .complete (.setReg (Writes.ldRegImm r n) n s) (by decide)
  | ldRegAtHL r => exact exec_ldRegAtHL r s ▸ loadRegAt_answers (Writes.ldRegAtHL r) s.hl
  | ldAtHLReg r => exact exec_ldAtHLReg r s ▸ storeAt_answers (hl_mem_storedAddresses_ldAtHLReg r s) (s.reg r)
  | ldPairImm p nn =>
    exact exec_ldPairImm p nn s ▸
      .complete (.setPair (Writes.ldPairImm p nn) (fun h => h ▸ WritesSP.ldPairImm nn) nn s) (by decide)
  | push p => exact exec_push p s ▸ push_answers p s
  | pop p => exact exec_pop p s ▸ pop_answers p s
  | aluReg op t => exact exec_aluReg op t s ▸ aluOnA_answers (Writes.aluReg op t) (WritesFlags.aluReg op t) _
  | aluImm op n => exact exec_aluImm op n s ▸ aluOnA_answers (Writes.aluImm op n) (WritesFlags.aluImm op n) _
  | incReg r => exact exec_incReg r s ▸ incTarget_answers (Writes.incReg r) (WritesFlags.incReg r)
  | decReg r => exact exec_decReg r s ▸ decTarget_answers (Writes.decReg r) (WritesFlags.decReg r)
  | addHLPair p =>
    exact exec_addHLPair p s ▸ addHL_answers (Writes.addHLPair p .h (by decide)) (Writes.addHLPair p .l (by decide))
      (WritesFlags.addHLPair p) p
  | incPair p =>
    exact exec_incPair p s ▸ .complete (.setPair (Writes.incPair p) (fun h => h ▸ WritesSP.incPair) _ s) (by decide)
  | decPair p =>
    exact exec_decPair p s ▸ .complete (.setPair (Writes.decPair p) (fun h => h ▸ WritesSP.decPair) _ s) (by decide)
  | jpCond cc nn => exact exec_jpCond cc nn s ▸ jumpCond_answers cc nn
  | jrCond cc e => exact exec_jrCond cc e s ▸ jumpRelCond_answers cc e
  | callCond cc nn =>
    exact exec_callCond cc nn s ▸ callCond_answers
      (fun h => (storedAddresses_callCond cc nn s).trans (if_pos h)) (WritesSP.callCond cc nn) nn
  | retCond cc => exact exec_retCond cc s ▸ returnCond_answers (WritesSP.retCond cc) cc
  | rst k => exact exec_rst k s ▸ rst_answers k s
  | rotate op t => exact exec_rotate op t s ▸ rotateTarget_answers (mayPut_rotate op t s) (WritesFlags.rotate op t) op
  | bit b t => exact exec_bit b t s ▸ bitTarget_answers (WritesFlags.bit b t) b t
  | res b t => exact exec_res b t s ▸ resTarget_answers (mayPut_res b t s) b
  | set b t => exact exec_set b t s ▸ setTarget_answers (mayPut_set b t s) b
  | nop => exact .complete (.refl s) (by decide)
  | ldAtBCA => exact storeAt_answers (List.mem_singleton_self s.bc) s.a
  | ldAtDEA => exact storeAt_answers (List.mem_singleton_self s.de) s.a
  | ldAtCA => exact storeAt_answers (List.mem_singleton_self (highPage s.c)) s.a
  | ldAtHLN n => exact .complete (.memWrite (List.mem_singleton_self s.hl) n s) (by decide)
  | ldAtNnA nn => exact .complete (.memWrite (List.mem_singleton_self nn) s.a s) (by decide)
  | ldhAtNA n => exact .complete (.memWrite (List.mem_singleton_self (highPage n)) s.a s) (by decide)
  | ldAtNnSP nn =>
    have h1 : nn ∈ [nn, nn + 1#16] := List.mem_cons_self
    have h2 : nn + 1#16 ∈ [nn, nn + 1#16] := List.mem_cons_of_mem _ (List.mem_singleton_self _)
    exact .complete ((Effect.memWrite (w := footprint (.ldAtNnSP nn) s) h1 _ s).trans (.memWrite h2 _ _)) (by decide)
  | ldAAtBC => exact loadRegAt_answers Writes.ldAAtBC s.bc
  | ldAAtDE => exact loadRegAt_answers Writes.ldAAtDE s.de
  | ldAAtC => exact loadRegAt_answers Writes.ldAAtC (highPage s.c)
  | ldAAtNn nn => exact .complete ((Effect.memRead nn s).trans (.setReg (Writes.ldAAtNn nn) _ _)) (by decide)
  | ldhAAtN n => exact .complete ((Effect.memRead (highPage n) s).trans (.setReg (Writes.ldhAAtN n) _ _)) (by decide)
  | ldAtHLIncA =>
    exact storeAStep_answers (List.mem_singleton_self s.hl) (Writes.ldAtHLIncA .h (by decide))
      (Writes.ldAtHLIncA .l (by decide)) 1#16
  | ldAtHLDecA =>
    exact storeAStep_answers (List.mem_singleton_self s.hl) (Writes.ldAtHLDecA .h (by decide))
      (Writes.ldAtHLDecA .l (by decide)) (-1#16)
  | ldAAtHLInc =>
    exact loadAStep_answers (Writes.ldAAtHLInc .a (by decide)) (Writes.ldAAtHLInc .h (by decide))
      (Writes.ldAAtHLInc .l (by decide)) 1#16
  | ldAAtHLDec =>
    exact loadAStep_answers (Writes.ldAAtHLDec .a (by decide)) (Writes.ldAAtHLDec .h (by decide))
      (Writes.ldAAtHLDec .l (by decide)) (-1#16)
  | rlca => exact writeAF_answers Writes.rlca WritesFlags.rlca _ _
  | rrca => exact writeAF_answers Writes.rrca WritesFlags.rrca _ _
  | rla => exact writeAF_answers Writes.rla WritesFlags.rla _ _
  | rra => exact writeAF_answers Writes.rra WritesFlags.rra _ _
  | daa => exact writeAF_answers Writes.daa WritesFlags.daa _ _
  | cpl => exact writeAF_answers Writes.cpl WritesFlags.cpl _ _
  | scf => exact .complete (.setFlags WritesFlags.scf _ s) (by decide)
  | ccf => exact .complete (.setFlags WritesFlags.ccf _ s) (by decide)
  | incAtHL => exact incTarget_answers (t := .atHL) (List.mem_singleton_self s.hl) WritesFlags.incAtHL
  | decAtHL => exact decTarget_answers (t := .atHL) (List.mem_singleton_self s.hl) WritesFlags.decAtHL
  | ldHLSPE e =>
    exact .complete ((Effect.setPair (p := .hl) (Writes.ldHLSPE e) nofun _ s).trans (.setFlags (WritesFlags.ldHLSPE e) _ _))
      (by decide)
  | ldSPHL => exact .complete (.withSP WritesSP.ldSPHL s.hl s) (by decide)
  | addSPE e =>
    exact .complete ((Effect.withSP (WritesSP.addSPE e) _ s).trans (.setFlags (WritesFlags.addSPE e) _ _)) (by decide)
  | jrE e => exact .complete (.withPC _ s) (by decide)
  | jpNn nn => exact .complete (.withPC nn s) (by decide)
  | jpHL => exact .complete (.withPC s.hl s) (by decide)
  | callNn nn =>
    obtain ⟨h1, h2⟩ := mem_stack_addrs s
    exact .complete (Effect.call (w := footprint (.callNn nn) s) h1 h2 (WritesSP.callNn nn) nn) (by decide)
  | ret => exact .complete (.popPC WritesSP.ret s) (by decide)
  | reti =>
    exact .complete ((Effect.popPC WritesSP.reti s).trans (.withIme (w := footprint .reti s) (.inr rfl) true _)) (by decide)
  | prefixCB cb => exact operateCB_answers cb s
  | halt => exact haltCpu_answers rfl (.inl rfl)
  | stop n => exact stopCpu_answers (.inr ⟨n, rfl⟩) fun h => .inr ⟨⟨n, rfl⟩, h⟩
  | di => exact .complete (.withIme (w := footprint .di s) (.inl rfl) false s) (by decide)
  | ei => exact .complete (.withEi rfl true s) (by decide)
  | invalidD3 => exact invalidOpcode_answers (op := 0xD3#8) (by decide)
  | invalidDB => exact invalidOpcode_answers (op := 0xDB#8) (by decide)
  | invalidDD => exact invalidOpcode_answers (op := 0xDD#8) (by decide)
  | invalidE3 => exact invalidOpcode_answers (op := 0xE3#8) (by decide)
  | invalidE4 => exact invalidOpcode_answers (op := 0xE4#8) (by decide)
  | invalidEB => exact invalidOpcode_answers (op := 0xEB#8) (by decide)
  | invalidEC => exact invalidOpcode_answers (op := 0xEC#8) (by decide)
  | invalidED => exact invalidOpcode_answers (op := 0xED#8) (by decide)
  | invalidF4 => exact invalidOpcode_answers (op := 0xF4#8) (by decide)
  | invalidFC => exact invalidOpcode_answers (op := 0xFC#8) (by decide)
  | invalidFD => exact invalidOpcode_answers (op := 0xFD#8) (by decide)

theorem exec_effect {i : Instr} {s t : State} (h : exec i s = .next t) : Effect (footprint i s) s t := by
  obtain ⟨u, hu, heffect, -⟩ := exec_answers i s
  cases hu.symm.trans h
  exact heffect

/-! ## Frames (R35, R36, R41 to R49) -/

/-- Settles O11: memory changes within the footprint's addresses alone. -/
theorem memoryFrame : Obligations.MemoryFrame :=
  fun _ _ _ h => (exec_effect h).bus.peek

/-- Settles O12: 8-bit registers and SP change within the footprint alone. -/
theorem registerFrame : Obligations.RegisterFrame :=
  fun _ _ _ h => ⟨(exec_effect h).reg, (exec_effect h).sp⟩

/-- Settles O13: F changes within the footprint alone. -/
theorem flagFrame : Obligations.FlagFrame :=
  fun _ _ _ h => (exec_effect h).flags

theorem not_raisesFault {i : Instr} {s : State} (hstop : ∀ n, i ≠ .stop n) (hinvalid : ∀ b, (b, i) ∉ invalidBytes) :
    ¬RaisesFault i s := by
  rintro (⟨b, hb⟩ | ⟨⟨n, hn⟩, -⟩)
  · exact hinvalid b hb
  · exact hstop n hn

/-- Settles O14: the footprint names the instructions that write each part of the execution state, and an in-block register changes
within the footprint's addresses alone. -/
theorem executionStateFrame : Obligations.ExecutionStateFrame := by
  intro i s t h
  have heffect := exec_effect h
  have hbus := heffect.bus
  exact ⟨fun hdi hreti => heffect.ime (not_or.mpr ⟨hdi, hreti⟩), heffect.ei, heffect.haltBug,
    fun hhalt hstop => heffect.halted (not_or.mpr ⟨hhalt, fun ⟨n, hn⟩ => hstop n hn⟩),
    fun hstop hinvalid => heffect.fault (not_raisesFault hstop hinvalid),
    hbus.divcnt, hbus.tima, hbus.tma, hbus.tac, hbus.ifr, hbus.ie, heffect.kept⟩

/-! ## Costs and faults (R265, R288, R289) -/

/-- Each of R113's bytes is one cell of the primary map, and its instruction raises the fault with that byte. -/
theorem invalidBytes_spec {b : Byte} {i : Instr} (h : (b, i) ∈ invalidBytes) :
    primary b = .op0 i ∧ ∀ s, exec i s = invalidOpcode b s := by
  simp only [invalidBytes, List.mem_cons, Prod.mk.injEq, List.not_mem_nil, or_false] at h
  rcases h with ⟨rfl, rfl⟩ | ⟨rfl, rfl⟩ | ⟨rfl, rfl⟩ | ⟨rfl, rfl⟩ | ⟨rfl, rfl⟩ | ⟨rfl, rfl⟩ | ⟨rfl, rfl⟩ | ⟨rfl, rfl⟩ |
    ⟨rfl, rfl⟩ | ⟨rfl, rfl⟩ | ⟨rfl, rfl⟩ <;> exact ⟨rfl, fun _ => rfl⟩

theorem exec_invalid {b : Byte} {i : Instr} (h : (b, i) ∈ invalidBytes) (s : State) :
    exec i s = .next { s with fault := some (.invalidOpcode b s.opAddr) } :=
  (invalidBytes_spec h).2 s

theorem exec_stop_asHalt (n : Byte) {s : State} (h : s.cfg.stopMode = .asHalt) :
    exec (.stop n) s = .next { s with isHalted := true, instClocks := 4 } := by
  show stopCpu s = _
  rw [stopCpu, h]
  rfl

theorem exec_stop_refuse (n : Byte) {s : State} (h : s.cfg.stopMode = .refuse) :
    exec (.stop n) s = .next { s with fault := some (.refusedStop s.opAddr) } := by
  show stopCpu s = _
  rw [stopCpu, h]
  rfl

/-- Which record each of the two kinds of fault leaves. -/
theorem exec_of_raisesFault {i : Instr} {s : State} (h : RaisesFault i s) :
    ∃ record, exec i s = .next { s with fault := some record } ∧
      ((∃ b, (b, i) ∈ invalidBytes ∧ record = .invalidOpcode b s.opAddr) ∨
        (∃ n, i = .stop n ∧ s.cfg.stopMode = .refuse ∧ record = .refusedStop s.opAddr)) := by
  rcases h with ⟨b, hb⟩ | ⟨⟨n, rfl⟩, hmode⟩
  · exact ⟨_, exec_invalid hb s, .inl ⟨b, hb, rfl⟩⟩
  · exact ⟨_, exec_stop_refuse n hmode, .inr ⟨n, rfl, hmode, rfl⟩⟩

/-- Settles O15: the forms that raise a fault are explicit, and every other form completes within its footprint at one of R288's
costs. -/
theorem everyInstructionAnswersNext : Obligations.EveryInstructionAnswersNext := by
  intro i s
  obtain ⟨t, ht, heffect, hcost⟩ := exec_answers i s
  refine ⟨fun h => ?_, fun h => ⟨t, ht, heffect.fault h, hcost h⟩⟩
  obtain ⟨record, hrecord, -⟩ := exec_of_raisesFault h
  exact ⟨record, hrecord⟩

/-! ## The prefix row (R110) -/

/-- The prefix row and the CB instruction of its byte share the four forms of R224 to R235. -/
theorem exec_cbInstr (cb : Byte) (s : State) : exec (cbInstr cb) s = operateCB cb s := by
  cases cb using cbByFields with
  | rotate op t => rw [cbInstr_rotate, exec_rotate]; simp [operateCB]
  | bit b t => rw [cbInstr_bit, exec_bit]; simp [operateCB, bitOfField]
  | res b t => rw [cbInstr_res, exec_res]; simp [operateCB, bitOfField]
  | set b t => rw [cbInstr_set, exec_set]; simp [operateCB, bitOfField]

/-- Settles O37: the two meanings are one, and it answers a next state as every instruction's does. -/
theorem prefixRowRunsTheCbInstruction : Obligations.PrefixRowRunsTheCbInstruction := by
  intro cb s
  obtain ⟨t, ht, -⟩ := exec_answers (.prefixCB cb) s
  exact ⟨encodes_cb cb, t, ht, (exec_cbInstr cb s).trans ht⟩

end Sys2Proof.Machine
end

section
/-! Settles the statements about the tick (60_exceptions.md R280 to R302), the faults (45_system.md R262, R265) and the invariant:
each way a step can go as one equation, and what the fetch brings. -/

namespace Sys2Proof.Machine

open Sys2Proof.Spec

/-! ## The four ways a step can go (R281 to R284, R290) -/

theorem step_of_fault {s : State} {record : FaultRecord} (h : s.fault = some record) : step s = .fault (.stuck record) := by
  rw [step, agentsTick, tick, requesterMove_fault, h]

theorem step_of_inFlight {s : State} (hf : s.fault = none) (hc : s.instClocks ≠ 0) :
    step s = .next (countDown (timerStep (requesterMove s))) := by
  rw [step, agentsTick, tick, requesterMove_fault, hf]
  simp [hc]

/-- At a boundary, step 2 runs on the state that the requester's move and step 1 leave (R283). -/
theorem step_of_boundary {s : State} (hf : s.fault = none) (hc : s.instClocks = 0) :
    step s = boundaryTick (timerStep (requesterMove s)) := by
  rw [step, agentsTick, tick, requesterMove_fault, hf]
  simp [hc]

theorem step_of_due {s : State} (hf : s.fault = none) (hc : s.instClocks = 0) (hi : s.ime = true)
    (hp : pending (timerStep (requesterMove s)) ≠ 0#5) :
    step s = .next (countDown (dispatch (pending (timerStep (requesterMove s))) (boundaryState s))) := by
  rw [step_of_boundary hf hc, boundaryTick]
  simp [hi, hp, boundaryState]

theorem step_of_fetchesNow {s : State} (h : FetchesNow s) : step s = fetchExecute (boundaryState s) := by
  obtain ⟨hf, hc, hh, hd⟩ := h
  rw [step_of_boundary hf hc, boundaryTick, if_neg, if_pos]
  · rfl
  · exact hh
  · rwa [timerStep_ime, requesterMove_ime]

theorem step_of_asleep {s : State} (hf : s.fault = none) (hc : s.instClocks = 0) (hh : s.isHalted = true)
    (hp : pending (timerStep (requesterMove s)) = 0#5) :
    step s = .next { timerStep (requesterMove s) with instClocks := 3 } := by
  rw [step_of_boundary hf hc, boundaryTick]
  simp [hp, hh, wake, countDown]

/-! ## What a fetch tick does (R101, R288, R289, R291) -/

/-- The instruction fetched is one of its first byte's form. -/
theorem fetchInstr_instr (s : State) :
    ∃ n nn, (fetchInstr s).instr = formInstr (primary (fetchInstr s).op) n nn := by
  simp only [fetchInstr]
  split
  next hop => exact ⟨0, 0, by rw [hop, formInstr]⟩
  next hop => exact ⟨_, 0, by rw [hop, formInstr]⟩
  next hop => exact ⟨0, _, by rw [hop, formInstr]⟩

/-- The opcode byte is the first of the instruction's encoding. -/
theorem fetchInstr_op (s : State) : (encode (fetchInstr s).instr).head? = some (fetchInstr s).op := by
  obtain ⟨n, nn, h⟩ := fetchInstr_instr s
  rw [h, (primary_encodes _ n nn).2, List.head?_cons]

/-- R288 knows DI by its byte. -/
theorem fetchInstr_op_ne_di (s : State) : (fetchInstr s).op ≠ 0xF3#8 ↔ (fetchInstr s).instr ≠ .di := by
  refine not_congr ⟨fun h => ?_, fun h => ?_⟩
  · obtain ⟨n, nn, hi⟩ := fetchInstr_instr s
    rw [hi, h]
    rfl
  · have hop := fetchInstr_op s
    rw [h] at hop
    exact (Option.some.inj hop).symm

/-- The fetch tick of `s` ends in `t` with a fault recorded, of the instruction fetched and the address of its opcode. -/
def FetchFaults (s t : State) : Prop :=
  ∃ record, t = { (fetchInstr s).state with fault := some record } ∧
    ((∃ b, (b, (fetchInstr s).instr) ∈ invalidBytes ∧ record = .invalidOpcode b s.pc) ∨
      (∃ n, (fetchInstr s).instr = .stop n ∧ s.cfg.stopMode = .refuse ∧ record = .refusedStop s.pc))

/-- The fetch tick of `s` ends in `t` with the instruction fetched complete: an EI armed before has taken effect unless it is DI,
and one tick of the cost is counted. -/
def FetchCompletes (s t : State) : Prop :=
  ∃ u, exec (fetchInstr s).instr (fetchInstr s).state = .next u ∧ u.fault = none ∧ 4 ≤ u.instClocks ∧ u.instClocks ≤ 24 ∧
    t = { u with
      ime := u.ime || (s.eiImeEnable && decide ((fetchInstr s).instr ≠ .di)), instClocks := u.instClocks - 1 }

/-- A fetch tick runs the instruction fetched and ends as R289 and R291 say. -/
theorem fetchExecute_of_exec {s u : State} (h : exec (fetchInstr s).instr (fetchInstr s).state = .next u) :
    fetchExecute s = .next (if u.fault = none then
        { u with
          ime := u.ime || (s.eiImeEnable && decide ((fetchInstr s).instr ≠ .di)), instClocks := u.instClocks - 1 }
      else u) := by
  have hdi : decide ((fetchInstr s).op ≠ 0xF3#8) = decide ((fetchInstr s).instr ≠ .di) :=
    decide_eq_decide.mpr (fetchInstr_op_ne_di s)
  simp only [fetchExecute, h, finishFetchTick, countDown, hdi]
  cases u.fault <;> rfl

theorem fetchExecute_answers {s : State} (hf : s.fault = none) :
    ∃ t, fetchExecute s = .next t ∧ (FetchFaults s t ∨ FetchCompletes s t) := by
  obtain ⟨u, hu, heffect, hcost⟩ := exec_answers (fetchInstr s).instr (fetchInstr s).state
  refine ⟨_, fetchExecute_of_exec hu, ?_⟩
  by_cases hr : RaisesFault (fetchInstr s).instr (fetchInstr s).state
  · obtain ⟨record, hrecord, hwhich⟩ := exec_of_raisesFault hr
    cases hrecord.symm.trans hu
    rw [(fetchInstr_consumes s).2.2, fetchInstr_cfg] at hwhich
    exact .inl ⟨record, rfl, hwhich⟩
  · obtain ⟨-, hlow, hhigh⟩ := hcost hr
    have hnone : u.fault = none := (heffect.fault hr).trans ((fetchInstr_fault s).trans hf)
    rw [if_pos hnone]
    exact .inr ⟨u, hu, hnone, hlow, hhigh, rfl⟩

theorem boundaryState_fault (s : State) : (boundaryState s).fault = s.fault := by simp [boundaryState]

/-- Everything a step that answers a next state has done, a fetch tick by what it runs. -/
theorem step_next_cases {s t : State} (h : step s = .next t) :
    s.fault = none ∧
    ((s.instClocks ≠ 0 ∧ t = countDown (timerStep (requesterMove s))) ∨
     (s.instClocks = 0 ∧ t = countDown (dispatch (pending (timerStep (requesterMove s))) (boundaryState s))) ∨
     (FetchesNow s ∧ (FetchFaults (boundaryState s) t ∨ FetchCompletes (boundaryState s) t)) ∨
     (s.instClocks = 0 ∧ t = countDown { boundaryState s with instClocks := 4 })) := by
  obtain ⟨hf, hcases⟩ := step_cases h
  refine ⟨hf, hcases.imp_right (Or.imp ?_ (Or.imp ?_ ?_))⟩
  · exact fun ⟨hc, _, _, ht⟩ => ⟨hc, ht⟩
  · rintro ⟨hc, hd, hh, ht⟩
    obtain ⟨u, hu, hfetch⟩ := fetchExecute_answers ((boundaryState_fault s).trans hf)
    cases hu.symm.trans ht
    exact ⟨⟨hf, hc, hh, hd⟩, hfetch⟩
  · exact fun ⟨hc, _, _, ht⟩ => ⟨hc, ht⟩

/-! ## The invariant (R33, R40, R43, R71, R289) -/

theorem exec_haltBug {i : Instr} {s t : State} (h : exec i s = .next t) (hb : s.haltBug = false) (hh : s.isHalted = false) :
    t.haltBug = true → t.isHalted = false := by
  intro ht
  by_cases hi : i = .halt
  · subst hi
    change haltCpu s = .next t at h
    unfold haltCpu at h
    split at h
    · cases h
      exact hh
    · cases h
      exact absurd (ht.symm.trans hb) (by decide)
  · rw [(exec_effect h).haltBug hi, hb] at ht
    exact absurd ht (by decide)

theorem boundaryState_inv {s : State} (h : s.Inv) : (boundaryState s).Inv := by
  obtain ⟨hwf, hlow, hcount, hfault, hbug⟩ := h
  refine ⟨by simpa [boundaryState], by simpa [boundaryState], by simpa [boundaryState], by simpa [boundaryState], ?_⟩
  intro hb
  have hh : s.isHalted = false := hbug (by simpa [boundaryState] using hb)
  simp [boundaryState, wake, hh]

theorem FetchFaults.inv {s t : State} (h : FetchFaults s t) (hs : s.Inv) (hc : s.instClocks = 0) : t.Inv := by
  obtain ⟨record, rfl, -⟩ := h
  obtain ⟨hwf, hlow, -, -, -⟩ := hs
  refine ⟨by simpa, by simpa, by simp [hc], by simp [hc], ?_⟩
  simp [(fetchInstr_consumes s).1]

theorem FetchCompletes.inv {s t : State} (h : FetchCompletes s t) (hs : s.Inv) (hh : s.isHalted = false) : t.Inv := by
  obtain ⟨u, hu, hnone, -, hcost, rfl⟩ := h
  obtain ⟨hwf, hlow, -, -, -⟩ := hs
  have heffect := exec_effect hu
  have hbug := exec_haltBug hu (fetchInstr_consumes s).1 (by simpa)
  exact ⟨heffect.bus.wf (by simpa), heffect.lowF (by simpa), (Nat.sub_le _ _).trans hcost, absurd hnone, hbug⟩

/-- Settles O58: a counting tick, a dispatch and a halted charge move the count and leave the rest; a fetch keeps the invariant
because every instruction keeps within its footprint and costs at most 24, and a fault is raised at a count of 0. -/
theorem stepKeepsTheInvariant : Obligations.StepKeepsTheInvariant := by
  intro s t hs h
  have hb := boundaryState_inv hs
  obtain ⟨hf, ⟨-, rfl⟩ | ⟨hc, rfl⟩ | ⟨⟨-, hc, hh, -⟩, hfaults | hcompletes⟩ | ⟨hc, rfl⟩⟩ := step_next_cases h
  · obtain ⟨hwf, hlow, hcount, -, hbug⟩ := hs
    exact ⟨by simpa, by simpa, by simp; omega, by simp [hf], by simpa⟩
  · obtain ⟨hwf, hlow, -, -, -⟩ := hb
    exact ⟨by simpa using dispatch_wf _ hwf, by simpa, by simp, by simp [hf, boundaryState_fault], by simp⟩
  · exact hfaults.inv hb (by simpa [boundaryState])
  · exact hcompletes.inv hb hh
  · obtain ⟨hwf, hlow, -, -, hbug⟩ := hb
    exact ⟨hwf, hlow, by simp, by simp [hf, boundaryState_fault], hbug⟩

/-- Settles O59: nothing in a tick writes the parameters or the breakpoint, and no instruction's footprint has them. -/
theorem stepKeepsParametersAndBreakpoint : Obligations.StepKeepsParametersAndBreakpoint := by
  intro s t h
  obtain ⟨-, ⟨-, rfl⟩ | ⟨-, rfl⟩ | ⟨-, ⟨record, rfl, -⟩ | ⟨u, hu, -, -, -, rfl⟩⟩ | ⟨-, rfl⟩⟩ := step_next_cases h
  · simp
  · simp [boundaryState]
  · simp [boundaryState]
  · obtain ⟨-, -, haddr, henabled, hcfg⟩ := (exec_effect hu).kept
    simp [haddr, henabled, hcfg, boundaryState]
  · simp [boundaryState]

end Sys2Proof.Machine
end

section
/-! Settles the statements about a fetch tick: which steps record a fault or set IME (10_state.md R41, 60_exceptions.md R289, R314),
EI's delay (45_system.md R264), and what the tick runs, by the bytes it reads (30_encoding.md R100, R101, R103), with the invalid
bytes and STOP among them (R262, R265). -/

namespace Sys2Proof.Machine

open Sys2Proof.Spec

/-! ## Faults and IME (R41, R264, R289, R314) -/

/-- Settles O53: of the ways a step can go only a fetch can leave a fault, and it does by one of the two kinds of raise. -/
theorem faultIsTerminal : Obligations.FaultIsTerminal := by
  refine ⟨fun s record h => step_of_fault h, fun s t record h hrecord => ?_⟩
  obtain ⟨hf, ⟨-, rfl⟩ | ⟨-, rfl⟩ | ⟨hfetch, ⟨record', rfl, hwhich⟩ | ⟨u, -, hnone, -, -, rfl⟩⟩ | ⟨-, rfl⟩⟩ := step_next_cases h
  · simp [hf] at hrecord
  · simp [hf, boundaryState_fault] at hrecord
  · cases hrecord
    have hcount : (boundaryState s).instClocks = 0 := by simpa [boundaryState] using hfetch.2.1
    refine ⟨hfetch, by simpa, hwhich.imp ?_ ?_⟩
    · exact fun ⟨b, hb, hrec⟩ => ⟨b, _, hb, rfl, hrec⟩
    · exact fun ⟨n, hn, hmode, hrec⟩ => ⟨n, hn, by simpa [boundaryState] using hmode, hrec⟩
  · simp [hnone] at hrecord
  · simp [hf, boundaryState_fault] at hrecord

/-- RETI is the one instruction that sets IME: DI clears it, EI only arms the enable (R41, R264). -/
theorem exec_ime_clear {i : Instr} {s t : State} (h : exec i s = .next t) (hclear : s.ime = false) (hreti : i ≠ .reti) :
    t.ime = false := by
  by_cases hdi : i = .di
  · subst hdi
    cases h
    rfl
  · exact ((exec_effect h).ime (not_or.mpr ⟨hdi, hreti⟩)).trans hclear

theorem exec_eiImeEnable {i : Instr} {s t : State} (h : exec i s = .next t) (hclear : s.eiImeEnable = false) :
    t.eiImeEnable = decide (i = .ei) := by
  by_cases hei : i = .ei
  · subst hei
    cases h
    rfl
  · rw [(exec_effect h).ei hei, hclear, decide_eq_false hei]

/-- Settles O52: outside a fetch nothing sets IME; a fetch sets it by the EI armed before, and of the instructions only RETI
does. -/
theorem imeIsSetByEiOrRetiAlone : Obligations.ImeIsSetByEiOrRetiAlone := by
  intro s t h hclear hset
  obtain ⟨-, ⟨-, rfl⟩ | ⟨-, rfl⟩ | ⟨hfetch, ⟨record', rfl, -⟩ | ⟨u, hu, -, -, -, rfl⟩⟩ | ⟨-, rfl⟩⟩ := step_next_cases h
  · simp [hclear] at hset
  · simp at hset
  · simp [boundaryState, hclear] at hset
  · refine ⟨hfetch, or_iff_not_imp_right.mpr fun hreti => ?_⟩
    have hime : u.ime = false := exec_ime_clear hu (by simpa [boundaryState]) hreti
    have harmed : (boundaryState s).eiImeEnable = s.eiImeEnable := by simp [boundaryState]
    dsimp only at hset
    rw [hime, harmed, Bool.false_or, Bool.and_eq_true] at hset
    exact hset.1
  · simp [boundaryState, hclear] at hset

/-- A fetch that faults fetched neither EI nor DI. -/
theorem FetchFaults.instr_ne_ei {s t : State} (h : FetchFaults s t) : (fetchInstr s).instr ≠ .ei := by
  obtain ⟨-, -, ⟨b, hb, -⟩ | ⟨n, hn, -⟩⟩ := h
  · intro he
    simp [he, invalidBytes] at hb
  · simp [hn]

/-- Settles O51: the arming is read before the fetch consumes it, so the instruction fetched runs with IME clear; after it IME is
set unless it is DI or faulted, and the arming is again as that instruction leaves it. -/
theorem eiTakesEffectOneInstructionLater : Obligations.EiTakesEffectOneInstructionLater := by
  intro s hf hc hh hime hei
  have hfetch : FetchesNow s := ⟨hf, hc, hh, fun hd => absurd (hime.symm.trans hd.1) (by decide)⟩
  have hime' : (boundaryState s).ime = false := by simpa [boundaryState]
  have hei' : (boundaryState s).eiImeEnable = true := by simpa [boundaryState]
  obtain ⟨t, ht, hcases⟩ := fetchExecute_answers ((boundaryState_fault s).trans hf)
  refine ⟨hfetch, t, (step_of_fetchesNow hfetch).trans ht, ?_⟩
  rcases hcases with hfault | ⟨u, hu, hnone, -, -, rfl⟩
  · have hne := hfault.instr_ne_ei
    obtain ⟨record, rfl, -⟩ := hfault
    exact ⟨nofun, fun _ => by simpa, by simp [hne, (fetchInstr_consumes _).2.1]⟩
  · have hleft := exec_eiImeEnable hu (fetchInstr_consumes _).2.1
    refine ⟨fun _ => ?_, absurd hnone, hleft⟩
    by_cases hdi : (fetchInstr (boundaryState s)).instr = .di
    · have hu' : u.ime = false := exec_ime_clear hu (by simpa) (by simp [hdi])
      simp [hdi, hu']
    · simp [hdi, hei']

/-! ## The bytes a fetch reads (R100, R101, R103) -/

/-- Where the fetch goes on after the opcode byte: past it, or at it again under the HALT bug (R288). -/
def afterOpcode (s : State) : Word := if s.haltBug then s.pc else s.pc + 1#16

/-- The state of a fetch tick with PC at `pc`: what the fetch of the opcode at `addr` writes besides (R288). -/
def fetchedAt (pc addr : Word) (s : State) : State :=
  { s with pc := pc, opAddr := addr, haltBug := false, eiImeEnable := false }

theorem memRead_fetchedAt (a pc addr : Word) (s : State) :
    memRead a (fetchedAt pc addr s) = ((memRead a s).1, fetchedAt pc addr (memRead a s).2) := by
  unfold memRead
  split
  next r _ => cases r <;> rfl
  next => rfl

theorem fetchOpcode_eq (s : State) :
    fetchOpcode s = ((memRead s.pc s).1, fetchedAt (afterOpcode s) s.pc (memRead s.pc s).2) := rfl

theorem fetch8_fetchedAt (pc addr : Word) (s : State) :
    fetch8 (fetchedAt pc addr s) = ((memRead pc s).1, fetchedAt (pc + 1#16) addr (memRead pc s).2) := by
  show ((memRead pc (fetchedAt pc addr s)).1, { (memRead pc (fetchedAt pc addr s)).2 with
    pc := (memRead pc (fetchedAt pc addr s)).2.pc + 1#16 }) = _
  rw [memRead_fetchedAt]
  rfl

/-- The fetch reads the opcode at PC and as many bytes after it as its form takes, and decodes them. -/
theorem fetchInstr_eq (s : State) :
    let op := (memRead s.pc s).1
    let n := (primary op).length - 1
    let more := readBytes n (afterOpcode s) (memRead s.pc s).2
    decode (op :: more.1) = .ok ((fetchInstr s).instr, []) ∧
      (fetchInstr s).state = fetchedAt (afterOpcode s + BitVec.ofNat 16 n) s.pc more.2 := by
  simp only [fetchInstr, fetchOpcode_eq]
  cases hop : primary (memRead s.pc s).1 with
  | op0 i => simp [decode, hop, readBytes, Form.length]
  | op1 f => simp [decode, hop, readBytes, Form.length, fetch8_fetchedAt]
  | op2 f => simp [decode, hop, readBytes, Form.length, fetch8_fetchedAt, add_one_add_one]

theorem readBytes_length (n : Nat) (addr : Word) (s : State) : (readBytes n addr s).1.length = n := by
  induction n generalizing addr s with
  | zero => rfl
  | succ n ih => simp [readBytes, ih]

/-- Bytes that decode with nothing left are as many as their form takes. -/
theorem length_of_decode {op : Byte} {bytes : List Byte} {i : Instr} (h : decode (op :: bytes) = .ok (i, [])) :
    bytes.length = (primary op).length - 1 := by
  obtain ⟨hshort, hlong⟩ := decode_by_length op bytes
  rcases Nat.lt_or_ge (bytes.length + 1) (primary op).length with hlt | hge
  · cases (hshort hlt).symm.trans h
  · obtain ⟨j, hj⟩ := hlong hge
    simp only [hj, Except.ok.injEq, Prod.mk.injEq, List.drop_eq_nil_iff] at h
    omega

/-- As many bytes as decode to an instruction are as many as the fetch reads, so the fetch brings that instruction. -/
theorem fetchInstr_of_decode {s : State} {n : Nat} {i : Instr}
    (h : decode ((memRead s.pc s).1 :: (readBytes n (afterOpcode s) (memRead s.pc s).2).1) = .ok (i, [])) :
    (fetchInstr s).instr = i ∧ (fetchInstr s).state =
      fetchedAt (afterOpcode s + BitVec.ofNat 16 n) s.pc (readBytes n (afterOpcode s) (memRead s.pc s).2).2 := by
  obtain ⟨hinstr, hstate⟩ := fetchInstr_eq s
  have hn : n = (primary (memRead s.pc s).1).length - 1 := by
    rw [← length_of_decode h, readBytes_length]
  rw [← hn] at hinstr hstate
  cases hinstr.symm.trans h
  exact ⟨rfl, hstate⟩

/-- Settles O45: the fetch brings the instruction its bytes decode to, and the tick runs it on the state after those bytes. -/
theorem stepRunsTheDecodedInstruction : Obligations.StepRunsTheDecodedInstruction := by
  intro s n i hfetch s1 first next more hdecode
  obtain ⟨hinstr, hstate⟩ := fetchInstr_of_decode hdecode
  obtain ⟨u, hu, -⟩ := exec_answers (fetchInstr s1).instr (fetchInstr s1).state
  have harmed : s1.eiImeEnable = s.eiImeEnable := by simp [s1, boundaryState]
  have hrun := fetchExecute_of_exec hu
  rw [harmed, hinstr] at hrun
  rw [hinstr, hstate] at hu
  exact ⟨u, hu, (step_of_fetchesNow hfetch).trans hrun⟩

/-- A fetch tick whose instruction raises a fault leaves the raise's state as it is (R289). -/
theorem step_of_raise {s : State} (hfetch : FetchesNow s) {record : FaultRecord}
    (h : exec (fetchInstr (boundaryState s)).instr (fetchInstr (boundaryState s)).state =
      .next { (fetchInstr (boundaryState s)).state with fault := some record }) :
    step s = .next { (fetchInstr (boundaryState s)).state with fault := some record } := by
  rw [step_of_fetchesNow hfetch, fetchExecute_of_exec h, if_neg nofun]

/-- Settles O44: each invalid byte is a whole instruction of its own, so the tick that fetches it runs it on the state after that
one byte, and leaves the record it raises. -/
theorem invalidOpcodesRecordTheFault : Obligations.InvalidOpcodesRecordTheFault := by
  refine ⟨rfl, fun b i hb => ?_⟩
  have hencodes : Encodes [b] i := encodes_of_primary_op0 (invalidBytes_spec hb).1
  refine ⟨fun s => ⟨hencodes, exec_invalid hb s⟩, ?_⟩
  intro s hfetch s1 r hr
  obtain ⟨hinstr, hstate⟩ := fetchInstr_of_decode (s := s1) (n := 0) (hr.symm ▸ hencodes [])
  have hraise := exec_invalid hb (fetchInstr s1).state
  rw [← hinstr] at hraise
  rw [step_of_raise hfetch hraise, hstate, BitVec.add_zero]
  rfl

/-- Settles O43: `stopCpu` by its mode; and the tick that fetches 0x10 takes one more byte, whatever it is, and runs STOP on the
state after both. -/
theorem stopByMode : Obligations.StopByMode := by
  refine ⟨fun n s => ⟨encodes_of_primary_op1 rfl n, exec_stop_asHalt n, exec_stop_refuse n⟩, ?_⟩
  intro s hfetch hmode s1 first next second hfirst
  have hencodes : Encodes [0x10#8, second.1] (.stop second.1) := encodes_of_primary_op1 rfl second.1
  obtain ⟨hinstr, hstate⟩ := fetchInstr_of_decode (s := s1) (n := 1) (hfirst.symm ▸ hencodes [])
  have hraise := exec_stop_refuse second.1 (s := (fetchInstr s1).state) (by simpa [s1, boundaryState])
  rw [← hinstr] at hraise
  rw [step_of_raise hfetch hraise, hstate]
  rfl

end Sys2Proof.Machine
end

section
/-! Settles the statements about the timer (60_exceptions.md R282, R298 to R301), about the ticks of an instruction in flight
(R291), and about the boundaries that do not fetch (R284 to R292, R295), with the bound R357 on the wait for a dispatch. -/

namespace Sys2Proof.Machine

open Sys2Proof.Spec

/-! ## Step 1: the divider and the timer (R282, R298 to R301) -/

/-- Bit `k` falls when the count below it wraps: when the new count is a multiple of `2 ^ (k + 1)`. -/
theorem fallingEdge_eq (d : Word) {k : Nat} (hk : k < 16) :
    fallingEdge d (d + 1#16) k = decide ((d.toNat + 1) % 2 ^ (k + 1) = 0) := by
  have hd := d.isLt
  have hbit (n : Nat) : n.testBit k = decide (n / 2 ^ k % 2 = 1) := Nat.testBit_eq_decide_div_mod_eq
  rw [fallingEdge, BitVec.getLsbD, BitVec.getLsbD, BitVec.toNat_add, hbit, hbit]
  rw [Bool.eq_iff_iff]
  simp only [Bool.and_eq_true, decide_eq_true_eq, Bool.not_eq_true', decide_eq_false_iff_not, BitVec.toNat_ofNat]
  interval_cases k <;> omega

/-- The watched bit of each clock select is the one below its period (R300, R301). -/
theorem two_pow_selBit (s : State) : 2 ^ (selBit (clockSelect s) + 1) = period s.tac := by
  have h (x : BitVec 3) : 2 ^ (selBit (x.setWidth 2) + 1) = period x := by
    revert x
    decide
  exact h s.tac

theorem selBit_lt (cs : BitVec 2) : selBit cs < 16 := by
  revert cs
  decide

/-- R298: TIMA counts only while the timer is enabled, and from 0xFF it is reloaded and requests the Timer interrupt. -/
theorem timaInc_eq (s : State) :
    timaInc s =
      if s.tac.getLsbD 2 = true then
        if s.tima = 0xFF#8 then { s with tima := s.tma, ifr := s.ifr ||| 0b00100#5 } else { s with tima := s.tima + 1#8 }
      else s := by
  rw [timaInc]
  cases s.tac.getLsbD 2 <;> rfl

/-- Settles O48: the watched bit falls once per period, and a fall counts TIMA where the timer is enabled. -/
theorem timerCountsOncePerPeriod : Obligations.TimerCountsOncePerPeriod := by
  intro s
  rw [timerStep, fallingEdge_eq _ (selBit_lt _), two_pow_selBit, timaInc_eq]
  by_cases hp : (s.divcnt.toNat + 1) % period s.tac = 0
  · rw [if_pos (decide_eq_true hp)]
    simp only [hp, and_true]
    rfl
  · rw [if_neg (by simpa using hp), if_neg fun h => hp h.2]
    rfl

/-! ## Counting (R282, R291) -/

/-- Settles O46: away from a boundary a step is the requester's move, step 1 and the count, whose own equation it is. -/
theorem countingTick : Obligations.CountingTick := by
  intro s n hf hc
  rw [step_of_inFlight hf (by omega), countDown, timerStep_instClocks, requesterMove_instClocks, hc]
  rfl

/-- One tick of an instruction in flight. -/
def countingStep (s : State) : State := countDown (timerStep (requesterMove s))

/-- The requester's move writes IF and takes a request, and nothing else (R295). -/
theorem requesterMove_eq (s : State) :
    requesterMove s = { s with ifr := (requesterMove s).ifr, requests := s.requests.drop 1 } := by
  unfold requesterMove
  split
  next h => rw [h, List.drop_nil, ← h]
  next h => rw [h, List.drop_one, List.tail_cons]

/-- Step 1 writes the divider, TIMA and IF, and nothing else (R282). -/
theorem timerStep_eq (s : State) :
    timerStep s = { s with divcnt := s.divcnt + 1#16, tima := (timerStep s).tima, ifr := (timerStep s).ifr } := by
  have h := timerCountsOncePerPeriod s
  split at h
  · split at h <;> rw [h]
  · rw [h]

/-- `t` differs from `s` in the divider, TIMA, IF, the requests to come and the count alone. -/
def OnlyCounts (s t : State) : Prop :=
  t = { s with
    divcnt := t.divcnt, tima := t.tima, ifr := t.ifr, requests := t.requests, instClocks := t.instClocks }

theorem OnlyCounts.trans {s t u : State} (h : OnlyCounts s t) (k : OnlyCounts t u) : OnlyCounts s u := by
  unfold OnlyCounts at *
  rw [h] at k
  exact k

theorem onlyCounts_countingStep (s : State) : OnlyCounts s (countingStep s) := by
  have h : countingStep s = countDown (timerStep (requesterMove s)) := rfl
  rw [timerStep_eq, requesterMove_eq] at h
  unfold OnlyCounts
  rw [h]
  rfl

theorem countingStep_fields (s : State) :
    (countingStep s).divcnt = s.divcnt + 1#16 ∧ (countingStep s).requests = s.requests.drop 1 ∧
      (countingStep s).instClocks = s.instClocks - 1 ∧ (countingStep s).fault = s.fault := by
  have hreq : (requesterMove s).requests = s.requests.drop 1 := congrArg State.requests (requesterMove_eq s)
  simp [countingStep, hreq]

theorem run_succ {M : Host.Core} {s t : M.State} (h : M.step s = .next t) (k : Nat) : M.run (k + 1) s = M.run k t := by
  rw [Host.Core.run, h]

/-- `k` ticks of an instruction with at least `k` ticks left are `k` counting ticks. -/
theorem runsTo_counting {k : Nat} {s : State} (hf : s.fault = none) (hk : k ≤ s.instClocks) :
    RunsTo k s (countingStep^[k] s) := by
  induction k generalizing s with
  | zero => rfl
  | succ k ih =>
    obtain ⟨-, -, hcount, hfault⟩ := countingStep_fields s
    have hstep : core.step s = .next (countingStep s) := step_of_inFlight hf (by omega)
    exact (run_succ hstep k).trans (ih (hfault.trans hf) (hcount.symm ▸ Nat.le_sub_one_of_lt hk))

theorem iterate_countingStep (k : Nat) (s : State) :
    OnlyCounts s (countingStep^[k] s) ∧ (countingStep^[k] s).divcnt = s.divcnt + BitVec.ofNat 16 k ∧
      (countingStep^[k] s).requests = s.requests.drop k ∧ (countingStep^[k] s).instClocks = s.instClocks - k := by
  induction k with
  | zero => exact ⟨rfl, (BitVec.add_zero _).symm, rfl, rfl⟩
  | succ k ih =>
    obtain ⟨honly, hdiv, hreq, hcount⟩ := ih
    obtain ⟨hdiv', hreq', hcount', -⟩ := countingStep_fields (countingStep^[k] s)
    rw [Function.iterate_succ_apply']
    refine ⟨honly.trans (onlyCounts_countingStep _), ?_, ?_, by omega⟩
    · rw [hdiv', hdiv, BitVec.add_assoc, ← BitVec.ofNat_add]
    · rw [hreq', hreq, List.drop_drop]

/-- Settles O47: with no fault the ticks of the instruction in flight are counting ticks. -/
theorem instructionOccupiesItsCost : Obligations.InstructionOccupiesItsCost := by
  intro s hf
  refine ⟨fun k hk => ⟨_, runsTo_counting hf hk.le, (iterate_countingStep k s).2.2.2⟩, ?_⟩
  obtain ⟨honly, hdiv, hreq, hcount⟩ := iterate_countingStep s.instClocks s
  rw [Nat.sub_self] at hcount
  refine ⟨_, runsTo_counting hf le_rfl, hdiv, ?_⟩
  rw [OnlyCounts, hreq, hcount] at honly
  exact honly

/-! ## Boundaries: dispatch, wake and charge (R284 to R292) -/

/-- A pending interrupt wakes the CPU (R284). -/
theorem boundaryState_of_pending {s : State} (h : pending (timerStep (requesterMove s)) ≠ 0#5) :
    boundaryState s = { timerStep (requesterMove s) with isHalted := false } := by
  rw [boundaryState, wake, decide_eq_false h, Bool.and_false]

/-- Settles O50: without a pending interrupt the halted CPU is charged; with one the wake leaves a boundary that fetches. -/
theorem haltedBoundaryChargesOrWakes : Obligations.HaltedBoundaryChargesOrWakes := by
  refine fun s hf hc hh => ⟨step_of_asleep hf hc hh, fun hp hime => ?_⟩
  have hb := boundaryState_of_pending hp
  rw [← hb]
  exact step_of_fetchesNow ⟨hf, hc, by rw [hb], by simp [hime]⟩

/-- The push of a dispatch does not meet the wake before it. -/
theorem dispatch_awake (p : BitVec 5) (s : State) :
    dispatch p { s with isHalted := false } =
      let w := memWrite (s.sp - 2#16) (loByte (dispatchReturn s)) (memWrite (s.sp - 1#16) (hiByte (dispatchReturn s)) s)
      { w with
        ime := false, eiImeEnable := false, haltBug := false, isHalted := false
        ifr := w.ifr &&& ~~~(highestPriority p).mask, sp := s.sp - 2#16, pc := vector s.cfg (highestPriority p)
        instClocks := 20 } := by
  have hret : dispatchReturn { s with isHalted := false } = dispatchReturn s := rfl
  have hpush (x : Word) (v : Byte) (u : State) :
      memWrite x v { u with isHalted := false } = { memWrite x v u with isHalted := false } :=
    memWrite_with_isHalted x v u false
  simp only [dispatch_eq, hret, hpush]

/-- Settles O49: the source serviced is the lowest pending one, and `dispatch` of the woken state does the rest; step 1 and the
requester's move leave SP, PC, the HALT bug and the parameters. -/
theorem dispatchOfTheLowestPendingSource : Obligations.DispatchOfTheLowestPendingSource := by
  intro s i s1 hf hc hime hi hlow ret w
  have hp : pending s1 ≠ 0#5 := by
    intro h0
    change (pending s1).getLsbD i.bit = true at hi
    simp [h0] at hi
  have hsource : highestPriority (pending s1) = i := highestPriority_eq _ i hi hlow
  have hsp : s1.sp = s.sp := by simp [s1]
  have hcfg : s1.cfg = s.cfg := by simp [s1]
  have hret : dispatchReturn s1 = ret := by simp [dispatchReturn, s1, ret]
  rw [step_of_due hf hc hime hp, boundaryState_of_pending hp, dispatch_awake, hsource, hsp, hcfg, hret]
  cases i <;> rfl

/-- Settles O54: the requester's move is the first thing in a step, and each bit of its mask is one request, none of them the
Timer's. -/
theorem requesterSetsItsFourBitsAlone : Obligations.RequesterSetsItsFourBitsAlone := by
  intro s q later
  refine ⟨rfl, ?_⟩
  obtain ⟨v, l, r, j⟩ := q
  cases v <;> cases l <;> cases r <;> cases j <;> decide

/-! ## A bound on the wait for a dispatch (R357) -/

/-- A tick raises requests and clears none. -/
theorem exists_raised (s : State) : ∃ m, (timerStep (requesterMove s)).ifr = s.ifr ||| m := by
  have hmove : ∃ m, (requesterMove s).ifr = s.ifr ||| m := by
    unfold requesterMove
    split
    · exact ⟨0, by simp⟩
    · exact ⟨_, rfl⟩
  obtain ⟨m, hm⟩ := hmove
  rw [timerCountsOncePerPeriod (requesterMove s)]
  split
  · split
    · exact ⟨m ||| 0b00100#5, by simp [hm, BitVec.or_assoc]⟩
    · exact ⟨m, hm⟩
  · exact ⟨m, hm⟩

theorem pending_timerStep_ne_zero {s : State} (h : pending s ≠ 0#5) : pending (timerStep (requesterMove s)) ≠ 0#5 := by
  obtain ⟨m, hm⟩ := exists_raised s
  intro h0
  rw [pending, hm, timerStep_ie, requesterMove_ie, BitVec.and_or_distrib_left, BitVec.or_eq_zero_iff] at h0
  exact h h0.1

theorem iterate_pending_ne_zero (k : Nat) {s : State} (h : pending s ≠ 0#5) : pending (countingStep^[k] s) ≠ 0#5 := by
  induction k with
  | zero => exact h
  | succ k ih =>
    rw [Function.iterate_succ_apply']
    exact pending_timerStep_ne_zero ih

/-- Settles O55: the instruction in flight has at most 24 ticks left, its ticks count and leave IME and what is pending, and the
boundary after them dispatches. -/
theorem dispatchWithinTwentyFourTicks : Obligations.DispatchWithinTwentyFourTicks := by
  intro s hinv hf hime hp
  obtain ⟨-, -, hmax, -, -⟩ := hinv
  obtain ⟨honly, -, -, hcount⟩ := iterate_countingStep s.instClocks s
  have hrun := runsTo_counting hf le_rfl
  have hp' := pending_timerStep_ne_zero (iterate_pending_ne_zero s.instClocks hp)
  generalize countingStep^[s.instClocks] s = t at *
  have hf' : t.fault = none := by rw [honly]; exact hf
  have hime' : t.ime = true := by rw [honly]; exact hime
  have hcfg : t.cfg = s.cfg := by rw [honly]
  refine ⟨s.instClocks, t, _, highestPriority (pending (timerStep (requesterMove t))), hmax, hrun,
    step_of_due hf' (by omega) hime' hp', ?_⟩
  simp [boundaryState, hcfg]

end Sys2Proof.Machine
end

section
/-! Settles the statements about reads and writes by address (20_memory.md R72 to R74; 60_exceptions.md R293 to R296, R300): the six
in-block registers at their addresses, the bus at every other, and the external store after a write. -/

namespace Sys2Proof.Machine

open Sys2Proof.Spec

/-- The six in-block addresses of R72 are all that is not external. -/
theorem ioRegAt_eq_none {addr : Word}
    (h : addr ∉ [0xFF04#16, 0xFF05#16, 0xFF06#16, 0xFF07#16, 0xFF0F#16, 0xFFFF#16]) : ioRegAt addr = none := by
  simp only [List.mem_cons, List.not_mem_nil, or_false, not_or] at h
  obtain ⟨h1, h2, h3, h4, h5, h6⟩ := h
  rw [ioRegAt, if_neg h1, if_neg h2, if_neg h3, if_neg h4, if_neg h5, if_neg h6]

theorem memRead_external {addr : Word} (h : ioRegAt addr = none) (s : State) : memRead addr s = extRead addr s := by
  rw [memRead, h]

theorem memWrite_external {addr : Word} (h : ioRegAt addr = none) (v : Byte) (s : State) :
    memWrite addr v s = extWrite addr v s := by
  rw [memWrite, h]

/-- Settles O7: at an in-block address the answer is the register's, and no other address is in the block. -/
theorem memReadByAddress : Obligations.MemReadByAddress :=
  fun s => ⟨rfl, rfl, rfl, rfl, rfl, rfl, fun _ h => memRead_external (ioRegAt_eq_none h) s⟩

/-- Settles O8: at an in-block address the register takes the bits it keeps, and no other address is in the block. -/
theorem memWriteByAddress : Obligations.MemWriteByAddress :=
  fun s v => ⟨rfl, rfl, rfl, rfl, rfl, rfl, fun _ h => memWrite_external (ioRegAt_eq_none h) v s⟩

/-- Settles O10: outside the block a read is `ExtRead`, which takes the script's head where there is one. -/
theorem externalReadIsTheOracle : Obligations.ExternalReadIsTheOracle := by
  intro s addr answer later haddr hscript
  rw [memRead_external (ioRegAt_eq_none haddr), extRead, hscript]
  rfl

/-- What a read of an in-block register gives after a write to it (R72, R73). -/
theorem peek_memWrite_io (r : IoReg) (v : Byte) (s : State) :
    (memWrite r.addr v s).peek r.addr = readIo r (writeIo r v s) := by
  simp only [memWrite, State.peek, ioRegAt_addr]

theorem unusedTac_reads_one (v : Byte) : 0xF8#8 ||| (v.setWidth 3).setWidth 8 = 0xF8#8 ||| v := by
  revert v
  decide

theorem unusedIf_reads_one (v : Byte) : 0xE0#8 ||| (v.setWidth 5).setWidth 8 = 0xE0#8 ||| v := by
  revert v
  decide

/-- Settles O9: with nothing scripted a read is a look at the address, and a look after a write gives the byte, but for the three
registers that do not keep all of it. -/
theorem readAfterWrite : Obligations.ReadAfterWrite := by
  intro s addr v hwf hscript
  refine ⟨?_, fun x hx => peek_memWrite_other v s hx⟩
  rw [memRead_eq_peek addr (by simpa)]
  cases hio : ioRegAt addr with
  | none =>
    have hne (r : IoReg) : addr ≠ r.addr := by
      rintro rfl
      simp at hio
    rw [peek_memWrite_self v hwf hio, if_neg (show addr ≠ 0xFF04#16 from hne .div),
      if_neg (show addr ≠ 0xFF07#16 from hne .tac), if_neg (show addr ≠ 0xFF0F#16 from hne .ifr)]
  | some r =>
    rw [ioRegAt_some hio, peek_memWrite_io]
    cases r <;> simp [IoReg.addr, readIo, writeIo, hiByte, unusedTac_reads_one, unusedIf_reads_one]

end Sys2Proof.Machine
end

section
/-! Settles the statements about the stack (20_memory.md section 4; 40_loads.md section 6; 44_control.md R246 to R251) and about
the two loads that SP takes part in (40_loads.md R161, R163): the two writes of a push and the two reads of a pop in closed form,
then the instructions, and that a pop after a push gives the word back. -/

namespace Sys2Proof.Machine

open Sys2Proof.Spec

theorem loadHLSpOffset_eq (e : Byte) (s : State) :
    loadHLSpOffset e s =
      .next { s.setHL (s.sp + e.signExtend 16) with
        f := flagByte false false (decide (s.sp.toNat % 16 + e.toNat % 16 > 15))
          (decide (s.sp.toNat % 256 + e.toNat > 255))
        instClocks := 12 } := by
  rw [loadHLSpOffset, complete, addSpOffset_eq, State.setFlags, Flags.toByte_eq_flagByte]

/-- Settles O20: `LD (nn),SP` is its two writes, and `LD HL,SP+e` is R213's sum put into HL. -/
theorem stackPointerStoreAndOffsetLoad : Obligations.StackPointerStoreAndOffsetLoad :=
  ⟨fun _ nn => ⟨encodes_of_primary_op2 rfl nn, rfl⟩, fun s e => ⟨encodes_of_primary_op1 rfl e, loadHLSpOffset_eq e s⟩⟩

/-- Settles O21: PUSH is one push of the pair; POP is one pop, whose bytes are the halves of the pair popped. -/
theorem pushAndPop : Obligations.PushAndPop := by
  refine ⟨fun p s => ⟨encodes_of_primary_op0 (primary_push p), ?_⟩, fun p s => ?_⟩
  · rw [exec_push, pushPair, complete, push16_eq]
    rfl
  · refine ⟨encodes_of_primary_op0 (primary_pop p), ?_⟩
    rw [exec_pop, popPair, complete, pop16_eq]
    dsimp only
    cases p <;>
      simp only [State.setStackPair, State.setBC, State.setDE, State.setHL, State.setAF, hiByte_joinBytes, loByte_joinBytes,
        maskF]

theorem call_eq (target : Word) (s : State) :
    call target s =
      { memWrite (s.sp - 2#16) (loByte s.pc) (memWrite (s.sp - 1#16) (hiByte s.pc) s) with
        sp := s.sp - 2#16, pc := target } := by
  rw [call, push16_eq]

theorem popPC_eq (s : State) :
    popPC s =
      { (memRead (s.sp + 1#16) (memRead s.sp s).2).2 with
        pc := joinBytes (memRead (s.sp + 1#16) (memRead s.sp s).2).1 (memRead s.sp s).1, sp := s.sp + 2#16 } := by
  rw [popPC, pop16_eq]

/-- Settles O39: each form taken is one call, and RST's target is its field times 8. -/
theorem callsAndRestarts : Obligations.CallsAndRestarts := by
  intro cc nn k s pushed
  refine ⟨⟨encodes_of_primary_op2 rfl nn, ?_⟩, ⟨encodes_of_primary_op2 (primary_callCond cc) nn, ?_⟩,
    ⟨encodes_of_primary_op0 (primary_rst k), ?_⟩⟩
  · show complete 24 (call nn s) = _
    rw [complete, call_eq]
    rfl
  · rw [exec_callCond, callCond, call_eq]
    split <;> rfl
  · rw [exec_rst, restart, complete, call_eq, Nat.mul_comm]
    rfl

/-- Settles O40: each form taken is one pop into PC, and RETI sets IME besides. -/
theorem returns : Obligations.Returns := by
  intro cc s lo hi
  refine ⟨⟨encodes_of_primary_op0 rfl, ?_⟩, ⟨encodes_of_primary_op0 (primary_retCond cc), ?_⟩,
    ⟨encodes_of_primary_op0 rfl, ?_⟩⟩
  · show complete 16 (popPC s) = _
    rw [complete, popPC_eq]
    rfl
  · rw [exec_retCond, returnCond, popPC_eq]
    split <;> rfl
  · show complete 16 (returnFromInterrupt s) = _
    rw [complete, returnFromInterrupt, popPC_eq]
    rfl

theorem joinBytes_maskF (v : Word) : joinBytes (hiByte v) (maskF (maskF (loByte v))) = v &&& 0xFFF0#16 := by
  have hmask : maskF (maskF (loByte v)) = loByte v &&& 0xF0#8 := by rw [maskF, maskF, BitVec.and_assoc, BitVec.and_self]
  calc joinBytes (hiByte v) (maskF (maskF (loByte v)))
      = joinBytes (hiByte v) (loByte v) &&& 0xFFF0#16 := by
        rw [hmask, joinBytes, joinBytes, show (0xFFF0#16 : Word) = 0xFF#8 ++ 0xF0#8 from rfl, BitVec.and_append,
          show hiByte v &&& 0xFF#8 = hiByte v from BitVec.and_allOnes]
    _ = v &&& 0xFFF0#16 := by rw [joinBytes_hi_lo]

/-- What is written to a stack pair is read back, in AF with the low nibble zero (R33, R166). -/
theorem State.stackPair_setStackPair_same (s : State) (q : StackPair) (v : Word) :
    (s.setStackPair q v).stackPair q = match q with | .af => v &&& 0xFFF0#16 | _ => v := by
  cases q with
  | bc => exact State.bc_setBC s v
  | de => exact State.de_setDE s v
  | hl => exact State.hl_setHL s v
  | af => exact joinBytes_maskF v

/-- Settles O22: the pop reads back the word pushed, and the pair popped holds it, but for F's low nibble. -/
theorem popAfterPushRestores : Obligations.PopAfterPushRestores := by
  intro p q s t u hwf hscript h1 h2 hpush hpop
  rw [exec_push, pushPair, complete_next_iff] at hpush
  rw [exec_pop, popPair, complete_next_iff] at hpop
  subst hpush
  obtain ⟨hvalue, hsp⟩ := pop16_push16 (s.stackPair p) hwf h1 h2 { push16 (s.stackPair p) s with instClocks := 16 } rfl
    (push16_sp _ s) (by simpa)
  rw [hvalue] at hpop
  subst hpop
  exact ⟨State.stackPair_setStackPair_same _ q _, (State.setStackPair_sp _ q _).trans hsp⟩

/-- Settles O41: CALL pushes PC, so the pop of RET reads it back. -/
theorem returnAfterCall : Obligations.ReturnAfterCall := by
  intro nn s t u hwf hscript h1 h2 hcall hret
  change complete 24 (call nn s) = .next t at hcall
  change complete 16 (popPC t) = .next u at hret
  rw [complete_next_iff] at hcall hret
  obtain ⟨hvalue, hsp⟩ := pop16_push16 s.pc hwf h1 h2 t (by rw [hcall]; rfl) (by rw [hcall]; exact push16_sp s.pc s)
    (by rw [hcall]; simpa [call])
  subst hret
  exact ⟨by rw [hcall]; rfl, hvalue, hsp⟩

end Sys2Proof.Machine
end

section
/-! Settles the statements about BCD arithmetic (41_alu8.md R194) and about an addition taken back (R198, C5): the first from the
sum, the difference and R194's algorithm on integers, the second from the sum and the difference alone. -/

namespace Sys2Proof.Machine

open Sys2Proof.Spec

/-! ## DAA after ADD and SUB (R194) -/

theorem Flags.ofByte_flagByte (z n h c : Bool) : Flags.ofByte (flagByte z n h c) = ⟨z, n, h, c⟩ := by
  rw [← Flags.toByte_eq_flagByte ⟨z, n, h, c⟩, Flags.ofByte_toByte]

theorem exists_digits {x : Nat} (hx : x < 100) :
    ∃ p < 10, ∃ q < 10, x = 10 * p + q ∧ (bcd x).toNat = 16 * p + q := by
  refine ⟨x / 10, by omega, x % 10, by omega, by omega, ?_⟩
  rw [bcd, BitVec.toNat_ofNat]
  omega

/-- The digits of a sum with decimal carries `j` and `k`: DAA adds 6 where the low digits carried, and 0x60 where the high ones
did. -/
theorem daaInt_add_digits {p q m n u v j k : Nat} (hp : p < 10) (hq : q < 10) (hm : m < 10) (hn : n < 10) (hu : u < 10)
    (hv : v < 10) (hj : j = 0 ∨ j = 1) (hk : k = 0 ∨ k = 1) (hlow : q + n = v + 10 * j) (hhigh : p + m + j = u + 10 * k) :
    let r := daaInt ((16 * p + q + (16 * m + n)) % 256 : Nat) false (decide (q + n > 15))
      (decide (16 * p + q + (16 * m + n) > 255))
    r.1 % 256 = (16 * u + v : Nat) ∧ r.2 = decide (k = 1) := by
  simp only [daaInt, Bool.false_eq_true, if_false, decide_eq_true_eq, ← Bool.decide_or, decide_eq_decide]
  obtain ⟨rfl | rfl, rfl | rfl⟩ := And.intro hj hk <;> exact ⟨by split_ifs <;> omega, by omega⟩

/-- The digits of a difference with decimal borrows `j` and `k`: DAA takes 6 away where the low digits borrowed, and 0x60 where
the high ones did. -/
theorem daaInt_sub_digits {p q m n u v j k : Nat} (hp : p < 10) (hq : q < 10) (hm : m < 10) (hn : n < 10) (hu : u < 10)
    (hv : v < 10) (hj : j = 0 ∨ j = 1) (hk : k = 0 ∨ k = 1) (hlow : q + 10 * j = n + v) (hhigh : p + 10 * k = m + u + j) :
    let r := daaInt ((((16 * p + q : Nat) : Int) - (16 * m + n : Nat)) % 256) true (decide (q < n))
      (decide (16 * p + q < 16 * m + n))
    r.1 % 256 = (16 * u + v : Nat) ∧ r.2 = decide (k = 1) := by
  simp only [daaInt, if_true, decide_eq_true_eq, decide_eq_decide]
  obtain ⟨rfl | rfl, rfl | rfl⟩ := And.intro hj hk <;> exact ⟨by split_ifs <;> omega, by omega⟩

theorem daaInt_add_bcd {x y : Nat} (hx : x < 100) (hy : y < 100) :
    let a := (bcd x).toNat
    let b := (bcd y).toNat
    let r := daaInt ((a + b) % 256 : Nat) false (decide (a % 16 + b % 16 > 15)) (decide (a + b > 255))
    r.1 % 256 = (bcd ((x + y) % 100)).toNat ∧ r.2 = decide (x + y ≥ 100) := by
  obtain ⟨p, hp, q, hq, hxd, hxb⟩ := exists_digits hx
  obtain ⟨m, hm, n, hn, hyd, hyb⟩ := exists_digits hy
  obtain ⟨u, hu, v, hv, hwd, hwb⟩ := exists_digits (Nat.mod_lt (x + y) (show 100 > 0 by decide))
  obtain ⟨hvalue, hcarry⟩ := daaInt_add_digits (j := (q + n) / 10) (k := (x + y) / 100) hp hq hm hn hu hv (by omega)
    (by omega) (by omega) (by omega)
  rw [hxb, hyb, hwb]
  dsimp only
  rw [show (16 * p + q) % 16 = q by omega, show (16 * m + n) % 16 = n by omega]
  exact ⟨hvalue, hcarry.trans (decide_eq_decide.mpr (by omega))⟩

theorem daaInt_sub_bcd {x y : Nat} (hx : x < 100) (hy : y < 100) :
    let a := (bcd x).toNat
    let b := (bcd y).toNat
    let r := daaInt (((a : Int) - b) % 256) true (decide (a % 16 < b % 16)) (decide (a < b))
    r.1 % 256 = (bcd ((x + 100 - y) % 100)).toNat ∧ r.2 = decide (x < y) := by
  obtain ⟨p, hp, q, hq, hxd, hxb⟩ := exists_digits hx
  obtain ⟨m, hm, n, hn, hyd, hyb⟩ := exists_digits hy
  obtain ⟨u, hu, v, hv, hwd, hwb⟩ := exists_digits (Nat.mod_lt (x + 100 - y) (show 100 > 0 by decide))
  obtain ⟨hvalue, hborrow⟩ := daaInt_sub_digits (j := 1 - (q + 10 - n) / 10) (k := 1 - (x + 100 - y) / 100) hp hq hm hn hu hv
    (by omega) (by omega) (by omega) (by omega)
  rw [hxb, hyb, hwb]
  dsimp only
  rw [show (16 * p + q) % 16 = q by omega, show (16 * m + n) % 16 = n by omega]
  exact ⟨hvalue, hborrow.trans (decide_eq_decide.mpr (by omega))⟩

/-- DAA after an instruction that leaves the A, N, H and C for which R194's algorithm gives the byte `v` and the carry `k`. -/
theorem exec_then_daa {i : Instr} {s t : State} {a : Int} {z n h c k : Bool} {v : Byte} (hexec : exec i s = .next t)
    (ha : t.a.toNat = a) (hf : t.flags = ⟨z, n, h, c⟩)
    (hr : (daaInt a n h c).1 % 256 = v.toNat ∧ (daaInt a n h c).2 = k) :
    ∃ t u, exec i s = .next t ∧ exec .daa t = .next u ∧ u.a = v ∧ u.flags.c = k := by
  obtain ⟨hvalue, hcarry⟩ := hr
  have hdaa := (decimalAdjustAlgorithm t).2
  rw [ha, hf] at hdaa
  dsimp only at hdaa
  refine ⟨t, _, hexec, hdaa, ?_, ?_⟩
  · apply BitVec.eq_of_toNat_eq
    rw [BitVec.toNat_ofInt]
    omega
  · rw [State.flags, Flags.ofByte_flagByte]
    exact hcarry

theorem exec_addAN (v : Byte) (s : State) :
    exec (.addAN v) s =
      .next { s with
        a := BitVec.ofNat 8 (s.a.toNat + v.toNat)
        f := flagByte (decide ((s.a.toNat + v.toNat) % 256 = 0)) false (decide (s.a.toNat % 16 + v.toNat % 16 > 15))
          (decide (s.a.toNat + v.toNat > 255))
        instClocks := 8 } :=
  (additionResultAndFlags (.imm v) s).1.2

theorem exec_subAN (v : Byte) (s : State) :
    exec (.subAN v) s =
      .next { s with
        a := BitVec.ofInt 8 (s.a.toNat - v.toNat)
        f := flagByte (decide (s.a.toNat = v.toNat)) true (decide (s.a.toNat % 16 < v.toNat % 16))
          (decide (s.a.toNat < v.toNat))
        instClocks := 8 } :=
  (subtractionAndCompare (.imm v) s).1.2

/-- Settles O28: DAA finds in A, H and C what the sum or the difference of the BCD bytes left there, and R194's algorithm makes
its digits of that. -/
theorem decimalAdjustGivesDecimalDigits : Obligations.DecimalAdjustGivesDecimalDigits := by
  intro x y s hx hy ha
  have hadd := exec_addAN (bcd y) s
  have hsub := exec_subAN (bcd y) s
  rw [ha] at hadd hsub
  constructor
  · refine exec_then_daa hadd ?_ (Flags.ofByte_flagByte ..) (daaInt_add_bcd hx hy)
    rw [BitVec.toNat_ofNat]
  · refine exec_then_daa hsub ?_ (Flags.ofByte_flagByte ..) (daaInt_sub_bcd hx hy)
    rw [BitVec.toNat_ofInt]
    omega

/-! ## An addition and its subtraction (R198, C5) -/

theorem toNat_eq_toNat_iff : ∀ c c' : Bool, c.toNat = c'.toNat ↔ c = c' := by
  decide

/-- A sum with `c` in, mod 256, less what was added and `c'` more. -/
theorem ofInt_sum_sub (a b : Byte) (c c' : Nat) :
    BitVec.ofInt 8 ((BitVec.ofNat 8 (a.toNat + b.toNat + c)).toNat - b.toNat - c') = BitVec.ofInt 8 (a.toNat + c - c') := by
  apply BitVec.eq_of_toNat_eq
  rw [BitVec.toNat_ofInt, BitVec.toNat_ofInt, BitVec.toNat_ofNat]
  omega

theorem ofInt_eq_self_iff (a : Byte) (c c' : Bool) : BitVec.ofInt 8 (a.toNat + c.toNat - c'.toNat) = a ↔ c = c' := by
  have ha := a.isLt
  have hc := c.toNat_le
  have hc' := c'.toNat_le
  rw [← BitVec.toNat_inj, BitVec.toNat_ofInt, ← toNat_eq_toNat_iff]
  omega

/-- Settles O30: modulo 256 the subtraction takes away what the addition added, but for the two carries in, and a carry is 0
or 1. -/
theorem addSubtractRoundTrip : Obligations.AddSubtractRoundTrip := by
  intro o s sum t u sumC x y hadd hta htb hsub hadc hxa hxb hsbc
  obtain ⟨⟨-, add⟩, -, adc⟩ := additionResultAndFlags o s
  obtain ⟨⟨-, sub⟩, -⟩ := subtractionAndCompare o t
  obtain ⟨-, ⟨-, sbc⟩, -⟩ := subtractionAndCompare o x
  rw [add, Host.Outcome.next.injEq] at hadd
  rw [adc, Host.Outcome.next.injEq] at hadc
  rw [sub, Host.Outcome.next.injEq, htb, hta] at hsub
  rw [sbc, Host.Outcome.next.injEq, hxb, hxa] at hsbc
  subst hadd hadc hsub hsbc
  have hy := ofInt_sum_sub s.a (operandValue s o) s.flags.c.toNat x.flags.c.toNat
  refine ⟨?_, hy, ?_⟩
  · simpa using ofInt_sum_sub s.a (operandValue s o) 0 0
  · dsimp only
    rw [hy, ofInt_eq_self_iff]

end Sys2Proof.Machine
end

section
/-! Settles the statements about NOP, HALT, DI and EI (45_system.md R260, R261, R263, R264) and about the state right after
construction (70_reset_and_hazards.md R343, R344). -/

namespace Sys2Proof.Machine

open Sys2Proof.Spec

/-- Settles O42: HALT's two ways are the branches of its definition, and the others are their equations. -/
theorem nopHaltDiEi : Obligations.NopHaltDiEi := by
  refine fun s => ⟨⟨encodes_of_primary_op0 rfl, rfl⟩, ⟨encodes_of_primary_op0 rfl, ?_⟩,
    ⟨encodes_of_primary_op0 rfl, rfl⟩, ⟨encodes_of_primary_op0 rfl, rfl⟩⟩
  show haltCpu s = _
  rw [haltCpu, pending, apply_ite Host.Outcome.next]
  rfl

/-- The store is empty at power on, and F is 0x00 or 0xB0. -/
theorem inv_powerOn (cfg : Config) : (State.powerOn cfg).Inv := by
  have hlow : ∀ boot : Bool, (if boot then 0x00#8 else 0xB0#8) &&& 0x0F#8 = 0x00#8 := by decide
  exact ⟨rfl, hlow _, Nat.zero_le 24, fun _ => rfl, fun _ => rfl⟩

/-- Settles O57: every clause but the invariant is a field of the state that construction builds. -/
theorem powerOnMeetsTheInvariant : Obligations.PowerOnMeetsTheInvariant :=
  ⟨fun cfg => ⟨inv_powerOn cfg, rfl, rfl, rfl, rfl, rfl, rfl, rfl, rfl, rfl, rfl, rfl, rfl, rfl⟩, rfl,
    inv_powerOn Config.default⟩

end Sys2Proof.Machine
end

section
/-! Settles the statement about the entry points (60_exceptions.md R309, R310; D25, D26, D38, D39): one tick and its breakpoint
check case by case, then the calls of several ticks by induction on the ticks that go on. -/

namespace Sys2Proof.Machine

open Sys2Proof.Spec

/-! ## One tick -/

theorem tickTag_eq (t : State) :
    tickTag t = if t.fault ≠ none then .fault else if t.instClocks = 0 then .boundary else .continued := by
  simp only [tickTag, Option.isSome_iff_ne_none]

theorem tickOnce_of_next {s t : State} (h : step s = .next t) : tickOnce s = (tickTag t, t) := by
  rw [tickOnce, show agentsTick s = .next t from h]

theorem tickOnce_of_fault {s : State} {record : Fault} (h : step s = .fault record) : tickOnce s = (.stuck, s) := by
  rw [tickOnce, show agentsTick s = .fault record from h]

theorem tickChecked_of_hit {s t : State} (h : tickOnce s = (.boundary, t)) (hmatch : breakpointMatches t = true) :
    tickChecked s = (.breakpointHit, disableBreakpoint t) := by
  rw [tickChecked, h]
  exact if_pos ⟨rfl, hmatch⟩

theorem tickChecked_of_no_hit {s t : State} {o : EntryOutcome} (h : tickOnce s = (o, t))
    (hno : o = .boundary → breakpointMatches t = false) : tickChecked s = (o, t) := by
  rw [tickChecked, h]
  exact if_neg fun ⟨hboundary, hmatch⟩ => by simp [hno hboundary] at hmatch

theorem breakpointMatches_eq_true {t : State} : breakpointMatches t = true ↔ t.bpEnabled = true ∧ t.pc = t.bpAddr := by
  rw [breakpointMatches, Bool.and_eq_true, decide_eq_true_eq]

theorem breakpointMatches_eq_false {t : State} : breakpointMatches t = false ↔ t.bpEnabled = false ∨ t.pc ≠ t.bpAddr := by
  rw [breakpointMatches, Bool.and_eq_false_iff, decide_eq_false_iff_not]

/-! ## Calls of several ticks -/

theorem endsCall_of_ends {o : EntryOutcome} (h : Ends o) : endsCall o = true := by
  obtain rfl | rfl | rfl := h <;> rfl

theorem endsCall_of_goesOn {o : EntryOutcome} (h : o = .continued ∨ o = .boundary) : endsCall o = false := by
  obtain rfl | rfl := h <;> rfl

/-- Ticks that go on are taken off the limit. -/
theorem tickUpTo_of_goesOn {k n : Nat} {s t : State} (h : GoesOn k s t) : tickUpTo (k + n) s = tickUpTo n t := by
  induction k generalizing s with
  | zero => rw [Nat.zero_add, show t = s from h]
  | succ k ih =>
    obtain ⟨o, u, htick, hgoes, hrest⟩ := h
    rw [Nat.succ_add, tickUpTo, htick]
    simp only [endsCall_of_goesOn hgoes, Bool.false_eq_true, if_false]
    exact ih hrest

/-- A tick that ends the call gives its outcome, whatever the limit was. -/
theorem tickUpTo_of_ends {n : Nat} {t u : State} {o : EntryOutcome} (htick : tickChecked t = (o, u)) (hends : Ends o) :
    tickUpTo n t = (o, u) := by
  cases n with
  | zero => exact htick
  | succ n =>
    rw [tickUpTo, htick]
    exact if_pos (endsCall_of_ends hends)

/-- Ticks that go on, each answered no by `frame_done`, are taken off the answers. -/
theorem tickFrame_of_goesOn {k : Nat} {s t : State} {done : Bool} {rest : List Bool} (h : GoesOn k s t) :
    tickFrame (List.replicate k false ++ done :: rest) s = tickFrame (done :: rest) t := by
  induction k generalizing s with
  | zero => rw [show t = s from h]; rfl
  | succ k ih =>
    obtain ⟨o, u, htick, hgoes, hrest⟩ := h
    rw [← ih hrest]
    cases k <;> simp [tickFrame, htick, endsCall_of_goesOn hgoes, List.replicate]

theorem tickFrame_of_ends {t u : State} {o : EntryOutcome} {done : Bool} {rest : List Bool}
    (htick : tickChecked t = (o, u)) (hends : Ends o) : tickFrame (done :: rest) t = (o, u) := by
  cases rest <;> simp [tickFrame, htick, endsCall_of_ends hends]

theorem tickFrame_of_done {t u : State} {o : EntryOutcome} {rest : List Bool} (htick : tickChecked t = (o, u))
    (hgoes : o = .continued ∨ o = .boundary) : tickFrame (true :: rest) t = (.frameDone, u) := by
  cases rest <;> simp [tickFrame, htick, endsCall_of_goesOn hgoes]

/-- The last of the ticks that go on. -/
theorem goesOn_succ_last {k : Nat} {s t : State} (h : GoesOn (k + 1) s t) :
    ∃ (r : State) (o : EntryOutcome), GoesOn k s r ∧ tickChecked r = (o, t) ∧ (o = .continued ∨ o = .boundary) := by
  induction k generalizing s with
  | zero =>
    obtain ⟨o, u, htick, hgoes, rfl⟩ := h
    exact ⟨s, o, rfl, htick, hgoes⟩
  | succ k ih =>
    obtain ⟨o, u, htick, hgoes, hrest⟩ := h
    obtain ⟨r, o', hfirst, hlast⟩ := ih hrest
    exact ⟨r, o', ⟨o, u, htick, hgoes, hfirst⟩, hlast⟩

/-- Settles O60: the first clauses are the cases of one tick and of its check; a call of several ticks comes down, by the ticks
that go on, to its last one. -/
theorem entryPointsAndBreakpoints : Obligations.EntryPointsAndBreakpoints := by
  refine ⟨fun s t h => ?_, fun s record h => tickOnce_of_fault h, fun s t h hen hpc => ?_, fun s t h hno => ?_,
    fun s t o h hne => ?_, fun s t h => ?_, fun k s t u o hk h htick hends => ?_, fun k s t u o done rest h htick hends => ?_,
    fun k s t rest h => ?_⟩
  · rw [tickOnce_of_next h, tickTag_eq]
  · exact tickChecked_of_hit h (breakpointMatches_eq_true.mpr ⟨hen, hpc⟩)
  · exact tickChecked_of_no_hit h fun _ => breakpointMatches_eq_false.mpr hno
  · exact tickChecked_of_no_hit h fun hboundary => absurd hboundary hne
  · exact tickUpTo_of_goesOn (n := 0) h
  · rw [tickInstr, show 3 = k + (3 - k) by omega, tickUpTo_of_goesOn h, tickUpTo_of_ends htick hends]
  · rw [tickFrame_of_goesOn h, tickFrame_of_ends htick hends]
  · obtain ⟨r, o, hfirst, htick, hgoes⟩ := goesOn_succ_last h
    rw [tickFrame_of_goesOn hfirst, tickFrame_of_done htick hgoes]

end Sys2Proof.Machine
end
